-- ==== Sys2Proof/Word.lean ====
section
/-! DEFINITION. The words of the model: the byte of the serial link, the line clock's 32-bit count, and the indices of
the things the part has a fixed number of. Quantities that the manual only counts are `Nat`, readings and masses `Int`. -/

namespace Sys2Proof

/-- One byte on the serial link (R173). -/
abbrev Byte := BitVec 8

/-- The line clock: a 32-bit count of seconds that passes from its top to 0 (R163). -/
abbrev Clock := BitVec 32

/-- The body of a request frame (R174): the bytes between KIND and CHECK. -/
abbrev Body := List Byte

/-- The host's number for an order, 1 to 65,535 (R2). -/
abbrev Tag := Nat

/-- One of the sixteen canisters (R42). -/
abbrev CanisterId := Fin 16

/-- A size code, 0 to 4 (00_scope.md, Units). -/
abbrev Size := Fin 5

/-- A base code, 0 to 3 (00_scope.md, Units). -/
abbrev Base := Fin 4

/-- One of the four shelves of the park rack (R109). -/
abbrev ShelfId := Fin 4

/-- The top value of a 32-bit count (R1, R65, R125). -/
def top32 : Nat := 4294967295

end Sys2Proof
end

