-- ==== Sys2Proof/Config.lean ====
section
/-! DEFINITION. What the manual fixes once for the part: sizes of its tables, times, capacities, default settings; and the
one value it leaves open, as an uninterpreted constant. -/

namespace Sys2Proof

/-- The class of an order (R2). -/
inductive OrderClass where
  | normal
  | rush
  deriving DecidableEq, Repr

namespace Config

/-- The byte by which a JOB_QUERY reply gives the class of a job. R23 lists the field and no file of the spec states its
values, so it is a free value: nothing is known of it. DESIGN CHOICE (log 13), safe. -/
opaque classCode : OrderClass → Byte

/-- Job slots (R1). -/
def jobSlots : Nat := 32
/-- Places of the report queue (R166). -/
def reportSlots : Nat := 64
/-- The overflow count stays at this value (R169). -/
def overflowTop : Nat := 255
/-- Bytes of the receive buffer (R177). -/
def bufferBytes : Nat := 512
/-- LINK_ERR replies for discarded frames that can be owed at once (R177). -/
def linkErrsOwed : Nat := 32
/-- Places of the mix lane and of the lid lane (R124, R139). -/
def lanePlaces : Nat := 3
/-- Steps a canister holds above its float's dead volume (R42). -/
def canisterSteps : Nat := 600000
/-- The grace period after which an unstirred manifold is stale, in seconds (R66). -/
def graceSeconds : Nat := 1800
/-- 50 g in counts of 10 mg (R82, R85). -/
def nearZeroCounts : Int := 5000
/-- 100 g in counts of 10 mg: a tin stands on the cell (R87). -/
def tinCounts : Int := 10000
/-- Two counts: the widest spread of a stable platform (R82). -/
def stableCounts : Int := 2
/-- The stability window in ms (R82). -/
def stableMs : Nat := 2500
/-- The time of a stray load in ms (R85). -/
def strayMs : Nat := 40000
/-- The part code of IDENT (R181). -/
def partCode : Nat := 4120
/-- The revision of IDENT (R181). -/
def revision : Nat := 1

/-- Nominal tin volume in mL by size code (00_scope.md, Units). -/
def volume (z : Size) : Nat := [500, 1000, 2500, 5000, 10000].getD z.val 0

/-- Tin magazine capacity (R151). -/
def tinCapacity (z : Size) : Nat := [30, 24, 12, 8, 6].getD z.val 0

/-- Lid magazine capacity (R151). -/
def lidCapacity (z : Size) : Nat := [60, 48, 24, 16, 12].getD z.val 0

/-- Base mix time in seconds (R128). -/
def baseMixTime (z : Size) : Nat := [60, 75, 90, 120, 150].getD z.val 0

end Config
end Sys2Proof
end

