-- ==== Sys2Proof/Syntax.lean ====
section
/-! DEFINITION. The commands of the part: one constructor for each row of spec/opcode_table.json. A request carries the
body of its frame, a machine event carries what its sensor says. -/

namespace Sys2Proof

/-- The two manifolds: canisters 0 to 7 on A, 8 to 15 on B (R42). -/
inductive Manifold where
  | a
  | b
  deriving DecidableEq, Repr

/-- The two mixers (R125). -/
inductive MixerId where
  | m0
  | m1
  deriving DecidableEq, Repr

/-- What the seating force sense reports (R144). -/
inductive Force where
  | pass
  | fail
  deriving DecidableEq, Repr

/-- The commands (the steps of spec/opcode_table.json, in its order). -/
inductive Instr where
  /-- POWER_ON_RESET (R165): the present state of the E-STOP input and of the sixteen floats (bit i: canister i TRIPPED). -/
  | powerOnReset (estop : Bool) (floats : BitVec 16)
  /-- LINE_CLOCK_TICK (R163). -/
  | lineClockTick
  /-- RECEIVE_BYTE (R173, R174): the byte, and whether its stop bit was valid. -/
  | receiveByte (b : Byte) (stopOk : Bool)
  /-- GAP_TIMER_EXPIRY (R176). -/
  | gapTimerExpiry
  /-- SERVE_LINK_ERR (R177). -/
  | serveLinkErr
  /-- UNKNOWN_KIND (R178): a checked frame whose kind is none of the eighteen. -/
  | unknownKind (kind : Byte) (body : Body)
  /-- IDENT (R181). -/
  | ident (body : Body)
  /-- ORDER (R13 to R18). -/
  | order (body : Body)
  /-- CANCEL (R19 to R21). -/
  | cancel (body : Body)
  /-- JOB_QUERY (R23). -/
  | jobQuery (body : Body)
  /-- RELEASE (R22). -/
  | release (body : Body)
  /-- CANISTER_SET (R58). -/
  | canisterSet (body : Body)
  /-- CANISTER_STATE with action OFFLINE (R53). -/
  | canisterStateOffline (body : Body)
  /-- CANISTER_STATE with action ONLINE (R55). -/
  | canisterStateOnline (body : Body)
  /-- CANISTER_STATE with action CLEAR_CHECK (R56). -/
  | canisterStateClearCheck (body : Body)
  /-- REFILL (R57). -/
  | refill (body : Body)
  /-- CANISTER_QUERY (R59). -/
  | canisterQuery (body : Body)
  /-- STOCK_LOAD (R152). -/
  | stockLoad (body : Body)
  /-- STOCK_SET (R152). -/
  | stockSet (body : Body)
  /-- LINE_SET (R159). -/
  | lineSet (body : Body)
  /-- LINE_MODE with mode RUN (R158). -/
  | lineModeRun (body : Body)
  /-- LINE_MODE with mode QUIET (R158). -/
  | lineModeQuiet (body : Body)
  /-- LINE_MODE with mode SLEEP (R158). -/
  | lineModeSleep (body : Body)
  /-- LINE_RESUME (R161). -/
  | lineResume (body : Body)
  /-- CLEAR_FAULT with target 1 or 2 (R75). -/
  | clearFaultManifold (body : Body)
  /-- CLEAR_FAULT with target 3 or 4 (R134). -/
  | clearFaultMixer (body : Body)
  /-- CLEAR_FAULT with target 5 (R147). -/
  | clearFaultPress (body : Body)
  /-- LINE_QUERY (R164). -/
  | lineQuery (body : Body)
  /-- FETCH (R170). -/
  | fetch (body : Body)
  /-- RESET (R162). -/
  | reset (body : Body)
  /-- ESTOP_ASSERTION (R160). -/
  | estopAssertion
  /-- ESTOP_RELEASE (R160). -/
  | estopRelease
  /-- IDLE_TIMER_EXPIRY (R156). -/
  | idleTimerExpiry
  /-- WAKE_END (R157). -/
  | wakeEnd
  /-- MANIFOLD_STALE (R66). -/
  | manifoldStale (m : Manifold)
  /-- STIR_START (R68). -/
  | stirStart (m : Manifold)
  /-- STIR_COMPLETE (R69). -/
  | stirComplete (m : Manifold)
  /-- PUMP_STEP (R71). -/
  | pumpStep (m : Manifold)
  /-- STALL (R73). -/
  | stall (m : Manifold)
  /-- FLOAT_TRIP (R49, R50). -/
  | floatTrip (c : CanisterId)
  /-- FLOAT_CLEAR (R50). -/
  | floatClear (c : CanisterId)
  /-- WEIGH_READING (R82): a count of 10 mg, and the ms since the reading before it, or since the cell was powered or its
  tracking started afresh. -/
  | weighReading (count : Int) (ms : Nat)
  /-- STRAY_LOAD (R85). -/
  | strayLoad
  /-- STATION_SELECT (R86, R113). -/
  | stationSelect
  /-- DRAW_END (R87). -/
  | drawEnd
  /-- UNPARK_END (R89). -/
  | unparkEnd
  /-- SETTLE_END (R88, R89, R96). -/
  | settleEnd
  /-- PARK_END (R103). -/
  | parkEnd
  /-- DISCHARGE_END (R102). -/
  | dischargeEnd
  /-- REJECT_END (R104). -/
  | rejectEnd
  /-- LOAD_END (R127). -/
  | loadEnd (k : MixerId)
  /-- MIX_RUN_COMPLETE (R129, R131). -/
  | mixRunComplete (k : MixerId)
  /-- IMBALANCE (R129). -/
  | imbalance (k : MixerId)
  /-- RECLAMP_END (R129). -/
  | reclampEnd (k : MixerId)
  /-- UNLOAD_END (R131). -/
  | unloadEnd (k : MixerId)
  /-- FEED_END (R142): the lid-present report. -/
  | feedEnd (lidPresent : Bool)
  /-- RESEAT_LID_PRESENT (R145): the lid-present report. -/
  | reseatLidPresent (lidPresent : Bool)
  /-- SEAT_END (R144): the force check. -/
  | seatEnd (force : Force)
  /-- EJECTION_END (R146). -/
  | ejectionEnd
  deriving DecidableEq, Repr

end Sys2Proof
end

