-- ==== Sys2Proof/WellFormed.lean ====
section
/-! DEFINITION. Which commands can arise: a body fits a frame, an unknown kind is unknown, and a row that shares its request
kind with other rows carries the selector byte of its own row, or one that the request refuses. -/

namespace Sys2Proof

/-- The eighteen request kinds (11_link_framing_and_message_reference.md, Message reference). -/
def requestKindCodes : List Byte :=
  [0x01, 0x10, 0x11, 0x12, 0x13, 0x20, 0x21, 0x22, 0x23, 0x30, 0x31, 0x40, 0x41, 0x42, 0x43, 0x44, 0x50, 0x7F]

/-- A body fits a frame: LEN is at most 250 and counts the kind byte (R174). -/
def Body.fits (b : Body) : Bool := b.length ≤ 249

/-- The selector of a row that shares its kind with sibling rows: the byte at `at` is not one of the siblings' values. A body
without that byte is one that the length test refuses, and any row may carry it (log 4). -/
def Body.selects (b : Body) (index : Nat) (siblings : List Byte) : Bool :=
  match b[index]? with
  | some v => !siblings.contains v
  | none => true

/-- The commands that can arise (R174, R178, R52, R75, R158). -/
def Instr.wellFormed : Instr → Bool
  | .unknownKind k b => b.fits && !requestKindCodes.contains k
  | .ident b | .order b | .cancel b | .jobQuery b | .release b | .canisterSet b | .refill b | .canisterQuery b
  | .stockLoad b | .stockSet b | .lineSet b | .lineResume b | .lineQuery b | .fetch b | .reset b => b.fits
  | .canisterStateOffline b => b.fits && b.selects 1 [2, 3]
  | .canisterStateOnline b => b.fits && b.selects 1 [1, 3]
  | .canisterStateClearCheck b => b.fits && b.selects 1 [1, 2]
  | .lineModeRun b => b.fits && b.selects 0 [2, 4]
  | .lineModeQuiet b => b.fits && b.selects 0 [1, 4]
  | .lineModeSleep b => b.fits && b.selects 0 [1, 2]
  | .clearFaultManifold b => b.fits && b.selects 0 [3, 4, 5]
  | .clearFaultMixer b => b.fits && b.selects 0 [1, 2, 5]
  | .clearFaultPress b => b.fits && b.selects 0 [1, 2, 3, 4]
  | .powerOnReset _ _ | .lineClockTick | .receiveByte _ _ | .gapTimerExpiry | .serveLinkErr | .estopAssertion
  | .estopRelease | .idleTimerExpiry | .wakeEnd | .manifoldStale _ | .stirStart _ | .stirComplete _ | .pumpStep _
  | .stall _ | .floatTrip _ | .floatClear _ | .weighReading _ _ | .strayLoad | .stationSelect | .drawEnd | .unparkEnd
  | .settleEnd | .parkEnd | .dischargeEnd | .rejectEnd | .loadEnd _ | .mixRunComplete _ | .imbalance _ | .reclampEnd _
  | .unloadEnd _ | .feedEnd _ | .reseatLidPresent _ | .seatEnd _ | .ejectionEnd => true

end Sys2Proof
end

