-- ==== Sys2Proof/Decode.lean ====
section
/-! DEFINITION. The decoder of the table's bits. spec/opcode_table.json gives no row any bits: the part takes commands, it
does not fetch instruction words, and a request's frame is decoded by the frame assembler (Machine/Link.lean). -/

namespace Sys2Proof

/-- The command that a word of the table's bits spells: none, since no row of the table has bits (log 2). -/
def decodeTableWord (_nbits _w : Nat) : Option Instr := none

end Sys2Proof
end

