-- ==== Sys2Proof/Machine/State.lean ====
section
/-! DEFINITION. Everything the spec gives the part to hold, as plain data, and its values right after power-on reset. A state
of a block that carries further data (PARKED, FAILED, SHORT, FAULTED, STIRRING, ...) carries it inside its constructor. -/

namespace Sys2Proof.Machine

/-! ## Orders and the Order Table -/

/-- Why a job was parked (R2, R111). -/
inductive ParkReason where
  | preempt
  | waitColourant
  deriving DecidableEq, Repr

/-- Why a job failed (R2, R11). -/
inductive FailReason where
  | mixFault
  | lidFault
  deriving DecidableEq, Repr

/-- The ten job states (R4), with the fields that are present only in one of them (R2). -/
inductive JobState where
  | queued
  | dosing
  | parked (reason : ParkReason) (number : Nat)
  | dosed
  | mixing
  | mixed
  | lidding
  | done
  | failed (reason : FailReason)
  | cancelled
  deriving DecidableEq, Repr

/-- The verdict of a dose (R3). -/
inductive DoseVerdict where
  | none
  | inTol
  | under
  | over
  deriving DecidableEq, Repr

/-- The verdict of a job (R2). -/
inductive JobVerdict where
  | inTol
  | outOfTol
  deriving DecidableEq, Repr

/-- One entry of a dose list (R3). -/
structure Dose where
  code : Nat
  merged : Nat
  canister : CanisterId
  steps : Nat
  delivered : Nat
  topUp : Nat
  verdict : DoseVerdict
  deriving DecidableEq, Repr

/-- The finish number and the finished time of a finished job (R2, R11). -/
structure Finish where
  number : Nat
  time : Clock
  deriving DecidableEq, Repr

/-- A job record (R2). -/
structure Job where
  tag : Tag
  cls : OrderClass
  size : Size
  base : Base
  strength : Nat
  notify : Bool
  lidSkip : Bool
  mixOverride : Option Nat
  doses : List Dose
  dropped : Nat
  state : JobState
  cancelPending : Bool
  verdict : JobVerdict
  admission : Nat
  admitted : Clock
  finish : Option Finish
  mixerUsed : Option MixerId
  mixAttempts : Nat
  lidAttempts : Nat
  deriving DecidableEq, Repr

/-- The Order Table (R1): the records of the occupied slots and the two counters. The free slots are the 32 less these; a slot
has no number that anything shows (log 15). -/
structure OrderTable where
  jobs : List Job
  admissionCounter : Nat
  finishCounter : Nat
  deriving DecidableEq, Repr

/-! ## The Colourant Bank -/

/-- Why a canister is SHORT (R42, R51). -/
inductive ShortCause where
  | float
  | belowReserved
  deriving DecidableEq, Repr

/-- The five canister states (R42). -/
inductive CanisterState where
  | ready
  | low
  | short (cause : ShortCause)
  | check
  | offline
  deriving DecidableEq, Repr

/-- A canister record (R42). `tripped` is the float. -/
structure Canister where
  code : Nat
  density : Nat
  usable : Nat
  reserved : Nat
  lowMark : Nat
  state : CanisterState
  tripped : Bool
  missCount : Nat
  offlinePending : Bool
  deriving DecidableEq, Repr

/-! ## Manifold Drives -/

/-- What a drive was doing when it stalled (R64, R73). -/
inductive FaultDetail where
  | dose
  | stir
  deriving DecidableEq, Repr

/-- A dose run in progress (R70, R71). -/
structure DoseRun where
  tag : Tag
  code : Nat
  canister : CanisterId
  asked : Nat
  topUp : Bool
  pumped : Nat
  deriving DecidableEq, Repr

/-- The four drive states with what is present only in one of them (R64): the run, the stir elapsed and the duration read at the
stir's start (R69), the fault detail. -/
inductive DriveState where
  | idle
  | dosing (run : DoseRun)
  | stirring (elapsed duration : Nat)
  | faulted (detail : FaultDetail)
  deriving DecidableEq, Repr

/-- A drive record (R64). -/
structure Drive where
  state : DriveState
  stirClock : Nat
  stale : Bool
  halted : Bool
  deriving DecidableEq, Repr

/-- The two drive records (R64). -/
structure Drives where
  a : Drive
  b : Drive
  deriving DecidableEq, Repr

/-! ## The Dosing Station -/

/-- What a settle is made for (R88, R89, R96). -/
inductive SettleFor where
  | draw
  | unpark
  | round
  deriving DecidableEq, Repr

/-- The thirteen station states (R81). -/
inductive StationState where
  | empty
  | tareWait
  | drawing
  | unparking
  | weighing (purpose : SettleFor)
  | dosing
  | waitDrive
  | parking
  | discharging
  | held
  | rejecting
  | blocked
  | stray
  deriving DecidableEq, Repr

/-- How a run ended (R71). -/
inductive EndCause where
  | complete
  | float
  | stall
  | estop
  deriving DecidableEq, Repr

/-- What a run's end filled into the round record (R91, R94). -/
structure RunEnd where
  pumped : Nat
  cause : EndCause
  deriving DecidableEq, Repr

/-- One accepted run of a round (R91). `ended` is absent until the run ends. -/
structure RoundRun where
  code : Nat
  canister : CanisterId
  asked : Nat
  density : Nat
  ended : Option RunEnd
  deriving DecidableEq, Repr

/-- The round in progress or awaiting verification (R81, R91, R99, R105). -/
structure Round where
  runs : List RoundRun
  topUp : Bool
  interrupted : Bool
  deriving DecidableEq, Repr

/-- The first-round figures (R81, R98) and the dose they belong to. -/
structure FirstRound where
  code : Nat
  canister : CanisterId
  expected : Nat
  tolerance : Nat
  measured : Int
  deriving DecidableEq, Repr

/-- The transfer in progress (R81), with the shelf it concerns and the reason of a park (R103). -/
inductive Transfer where
  | draw
  | unpark (shelf : ShelfId)
  | park (shelf : ShelfId) (reason : ParkReason)
  | discharge
  | reject
  deriving DecidableEq, Repr

/-- The station record (R81). -/
structure Station where
  state : StationState
  job : Option Tag
  readingBefore : Option Int
  round : Option Round
  firstRound : Option FirstRound
  transfer : Option Transfer
  halted : Bool
  deriving DecidableEq, Repr

/-- The weigh-cell record (R82). `window` holds the readings of the last 2.5 s, each with its age in ms, newest first; `tracked`
the ms that the window covers, up to 2,500; `strayMs` the ms for which every reading has stood 50 g above the zero. -/
structure WeighCell where
  zero : Int
  tareValid : Bool
  latest : Int
  window : List (Nat × Int)
  tracked : Nat
  strayMs : Option Nat
  deriving DecidableEq, Repr

/-- A shelf record (R109). -/
inductive Shelf where
  | free
  | claimedPark (tag : Tag)
  | holding (tag : Tag)
  | claimedUnpark (tag : Tag)
  deriving DecidableEq, Repr

/-- The park rack (R109). -/
structure Rack where
  shelves : Vector Shelf 4
  parkCounter : Nat
  deriving DecidableEq, Repr

/-! ## The Mixer Pool -/

/-- The seven mixer states (R125); the run elapsed is present only in RUNNING. -/
inductive MixerState where
  | idle
  | loading
  | running (elapsed : Nat)
  | reclamp
  | unloading
  | holding
  | fault
  deriving DecidableEq, Repr

/-- A mixer record (R125). -/
structure Mixer where
  state : MixerState
  tag : Option Tag
  mixTime : Option Nat
  lidLanePlace : Bool
  cycleCount : Nat
  halted : Bool
  deriving DecidableEq, Repr

/-- The mix lane (R124), the two mixers (R125), and the order in which mixers entered HOLDING (R132). -/
structure MixerPool where
  lane : List Tag
  heldPlace : Bool
  m0 : Mixer
  m1 : Mixer
  holdOrder : List MixerId
  deriving DecidableEq, Repr

/-! ## The Lid Press and Magazine Counts -/

/-- The phase of SEATING (R140). -/
inductive SeatPhase where
  | feed
  | seat
  deriving DecidableEq, Repr

/-- Which seat waits for a lid (R140). -/
inductive LidDue where
  | first
  | retry
  deriving DecidableEq, Repr

/-- Where an ejection goes (R140). -/
inductive Destination where
  | outfeed
  | reject
  deriving DecidableEq, Repr

/-- The six press states (R140) with the phase, lid due and destination that are present only in one of them. -/
inductive PressState where
  | idle
  | waitLid (due : LidDue)
  | seating (phase : SeatPhase)
  | reseating
  | ejecting (destination : Destination)
  | fault
  deriving DecidableEq, Repr

/-- The lid lane (R139) and the press record (R140). -/
structure LidPress where
  lane : List Tag
  heldPlaces : Nat
  state : PressState
  tag : Option Tag
  lidInHead : Bool
  failures : Nat
  halted : Bool
  deriving DecidableEq, Repr

/-- The ten magazine counts (R151). -/
structure Magazines where
  tins : Vector Nat 5
  lids : Vector Nat 5
  deriving DecidableEq, Repr

/-! ## The Report Queue -/

/-- The kinds of report record (R166). -/
inductive ReportKind where
  | jobDone
  | jobFailed
  | jobCancelled
  | canisterLow
  | canisterShort
  | canisterCheck
  | manifoldStale
  | manifoldFault
  | mixerFault
  | pressFault
  | stockOut
  | strayLoad
  | stationBlocked
  | estop
  | mode
  | jobParked
  deriving DecidableEq, Repr

/-- A report record (R166). -/
structure Record where
  kind : ReportKind
  detail : Nat
  subject : Nat
  value : Nat
  time : Clock
  deriving DecidableEq, Repr

/-- An entry of the queue: a record and its urgency mark (R166). -/
structure Entry where
  record : Record
  urgent : Bool
  deriving DecidableEq, Repr

/-- The report queue, head first, and the overflow count (R166). -/
structure Reports where
  queue : List Entry
  overflow : Nat
  deriving DecidableEq, Repr

/-! ## Line Mode Control -/

/-- The working mode (R153). -/
inductive WorkMode where
  | run
  | quiet
  deriving DecidableEq, Repr

/-- The six line modes (R153). -/
inductive LineMode where
  | run
  | quiet
  | standby
  | sleep
  | waking
  | halted
  deriving DecidableEq, Repr

/-- The idle timer (R156). -/
structure IdleTimer where
  elapsed : Nat
  running : Bool
  deriving DecidableEq, Repr

/-- The four presence flags (R155). -/
structure Presence where
  jobsQueued : Bool
  tinAtStation : Bool
  tinInMix : Bool
  tinInLid : Bool
  deriving DecidableEq, Repr

/-- The line settings (R159). -/
structure Settings where
  stirInterval : Nat
  stirDuration : Nat
  heartbeat : Bool
  tolerance : Nat
  idleTimeout : Nat
  loadLimits : Vector Nat 4
  notifyAll : Bool
  deriving DecidableEq, Repr

/-- Line Mode Control (R153). `estop` is the input, set when ASSERTED; `resumeWake` says that the present wake was begun by
LINE_RESUME (R156). -/
structure LineControl where
  mode : LineMode
  working : WorkMode
  saved : Option LineMode
  estop : Bool
  idle : IdleTimer
  presence : Presence
  settings : Settings
  clock : Clock
  resumeWake : Bool
  deriving DecidableEq, Repr

/-! ## The Link Interface -/

/-- The LINK_ERR codes (11_link_framing_and_message_reference.md, Result codes). -/
inductive LinkErr where
  | badCheck
  | truncated
  | overrun
  deriving DecidableEq, Repr

/-- The frame assembler (R174), with what it has received of the open frame. -/
inductive Assembler where
  | hunt
  | length
  | kind (len : Nat)
  | body (len : Nat) (kind : Byte) (body : Body)
  | check (len : Nat) (kind : Byte) (body : Body) (high : Option Byte)
  deriving DecidableEq, Repr

/-- A place in the order of service (R177). -/
inductive Service where
  | request (kind : Byte) (body : Body)
  | linkErr (code : LinkErr)
  deriving DecidableEq, Repr

/-- A reply (R178, R179): its kind, the result or LINK_ERR code, the action count and the fields that follow. -/
structure Reply where
  kind : Byte
  code : Byte
  count : Nat
  fields : List Byte
  deriving DecidableEq, Repr

/-- The Link Interface (R182). `attn` is the ATTN output; `reply` the last reply sent on TXD. -/
structure Link where
  assembler : Assembler
  service : List Service
  actionCount : Nat
  attn : Bool
  reply : Option Reply
  deriving DecidableEq, Repr

/-! ## The whole part -/

/-- The state of the part, and the queue of the commands that wait, first in, first out. -/
structure State where
  orders : OrderTable
  bank : Vector Canister 16
  drives : Drives
  station : Station
  weigh : WeighCell
  rack : Rack
  mixers : MixerPool
  press : LidPress
  magazines : Magazines
  reports : Reports
  line : LineControl
  link : Link
  pending : List Instr
  deriving DecidableEq, Repr

/-- Why a step could stop with a fault. The manual gives every command an effect, so no meaning answers with one. -/
inductive Fault where
  /-- Raised by nobody: it only keeps the type from being empty. Safe. -/
  | neverRaised
  deriving DecidableEq, Repr

/-- Why a step could refuse a command. -/
inductive Refusal where
  /-- Raised only by an arm of `exec` whose command has no meaning yet; no arm does. Safe. -/
  | notModelled (mnemonic : String)
  deriving DecidableEq, Repr

/-- A canister record after POR (R63), its float as its switch stands. -/
def Canister.atPowerOn (tripped : Bool) : Canister :=
  { code := 0, density := 1000, usable := 0, reserved := 0, lowMark := 60000, state := .offline, tripped := tripped,
    missCount := 0, offlinePending := false }

/-- The settings after POR (R159). -/
def Settings.atPowerOn : Settings :=
  { stirInterval := 60, stirDuration := 90, heartbeat := true, tolerance := 4, idleTimeout := 300,
    loadLimits := #v[40, 60, 100, 140], notifyAll := false }

/-- A mixer record after a reset, but for its cycle count and halted flag (R138). -/
def Mixer.atReset (halted : Bool) : Mixer :=
  { state := .idle, tag := none, mixTime := none, lidLanePlace := false, cycleCount := 0, halted := halted }

/-- The part right after power-on with E-STOP RELEASED and every float CLEAR (DESIGN CHOICE, log 10, unsafe): R24, R63, R80,
R108, R123, R138, R150, R151, R165, R172, R182, both start-up stirs begun. The latest reading is 0 (DESIGN CHOICE, log 11,
unsafe). -/
def State.reset : State :=
  { orders := { jobs := [], admissionCounter := 0, finishCounter := 0 }
    bank := Vector.replicate 16 (Canister.atPowerOn false)
    drives :=
      { a := { state := .stirring 0 90, stirClock := top32, stale := true, halted := false }
        b := { state := .stirring 0 90, stirClock := top32, stale := true, halted := false } }
    station :=
      { state := .tareWait, job := none, readingBefore := none, round := none, firstRound := none, transfer := none,
        halted := false }
    weigh := { zero := 0, tareValid := false, latest := 0, window := [], tracked := 0, strayMs := none }
    rack := { shelves := Vector.replicate 4 .free, parkCounter := 0 }
    mixers := { lane := [], heldPlace := false, m0 := Mixer.atReset false, m1 := Mixer.atReset false, holdOrder := [] }
    press := { lane := [], heldPlaces := 0, state := .idle, tag := none, lidInHead := false, failures := 0, halted := false }
    magazines := { tins := Vector.replicate 5 0, lids := Vector.replicate 5 0 }
    reports := { queue := [], overflow := 0 }
    line :=
      { mode := .standby, working := .run, saved := none, estop := false, idle := { elapsed := 0, running := false },
        presence := { jobsQueued := false, tinAtStation := false, tinInMix := false, tinInLid := false },
        settings := Settings.atPowerOn, clock := 0, resumeWake := false }
    link := { assembler := .hunt, service := [], actionCount := 0, attn := false, reply := none }
    pending := [] }

end Sys2Proof.Machine
end

