-- ==== Sys2Proof/Machine/Operands.lean ====
section
/-! DEFINITION. The operand forms: byte order and widths of request and reply fields (R179), the check code (R175), the result
codes and request kinds (11_link_framing_and_message_reference.md), the codes by which replies give states, and the bodies of
the requests read as fields. -/

namespace Sys2Proof.Machine

/-! ## Bytes -/

/-- A number read most significant byte first (00_scope.md, Units). -/
def beNat (bs : List Byte) : Nat := bs.foldl (fun n b => n * 256 + b.toNat) 0

/-- A field of one byte (R179). -/
def enc1 (n : Nat) : List Byte := [BitVec.ofNat 8 n]

/-- A field of two bytes, most significant first (R179). -/
def enc2 (n : Nat) : List Byte := [BitVec.ofNat 8 (n / 256), BitVec.ofNat 8 n]

/-- A field of four bytes, most significant first (R179). -/
def enc4 (n : Nat) : List Byte :=
  [BitVec.ofNat 8 (n / 16777216), BitVec.ofNat 8 (n / 65536), BitVec.ofNat 8 (n / 256), BitVec.ofNat 8 n]

/-- A flag sent as 0 or 1 (R179). -/
def encFlag (b : Bool) : List Byte := enc1 b.toNat

/-- An optional tag, 0 when absent (R107, R137, R150). -/
def encTag (t : Option Tag) : List Byte := enc2 (t.getD 0)

/-- One bit through the check register: the generator is x^16 + x^12 + x^5 + 1 (R175). -/
def crcBit (r : BitVec 16) : BitVec 16 := if r.msb then (r <<< 1) ^^^ 0x1021#16 else r <<< 1

/-- One byte through the check register, most significant bit first (R175). -/
def crcByte (r : BitVec 16) (b : Byte) : BitVec 16 := Nat.repeat crcBit 8 (r ^^^ (b.zeroExtend 16 <<< 8))

/-- The check code of a run of bytes (R175). -/
def crc (bs : List Byte) : BitVec 16 := bs.foldl crcByte 0xFFFF#16

/-- The check code of a frame, over LEN, KIND and BODY (R175). -/
def frameCheck (len : Nat) (kind : Byte) (body : Body) : BitVec 16 := crc (BitVec.ofNat 8 len :: kind :: body)

/-- A whole frame: SYNC, LEN, KIND, BODY, CHECK high byte first (Layouts, Frame). -/
def frameBytes (kind : Byte) (body : Body) : List Byte :=
  let len := body.length + 1
  let c := frameCheck len kind body
  [0xA5, BitVec.ofNat 8 len, kind] ++ body ++ [(c >>> 8).truncate 8, c.truncate 8]

/-- The bytes of a reply frame on TXD (R175, R178, R179). -/
def Reply.frame (r : Reply) : List Byte := frameBytes r.kind (r.code :: BitVec.ofNat 8 r.count :: r.fields)

/-! ## Request kinds and results -/

/-- The eighteen request kinds (Message reference). -/
inductive RequestKind where
  | ident | order | cancel | jobQuery | release | canisterSet | canisterState | refill | canisterQuery | stockLoad
  | stockSet | lineSet | lineMode | lineResume | clearFault | lineQuery | fetch | reset
  deriving DecidableEq, Repr

/-- The kind byte of a request (Message reference). -/
def RequestKind.code : RequestKind → Byte
  | .ident => 0x01
  | .order => 0x10
  | .cancel => 0x11
  | .jobQuery => 0x12
  | .release => 0x13
  | .canisterSet => 0x20
  | .canisterState => 0x21
  | .refill => 0x22
  | .canisterQuery => 0x23
  | .stockLoad => 0x30
  | .stockSet => 0x31
  | .lineSet => 0x40
  | .lineMode => 0x41
  | .lineResume => 0x42
  | .clearFault => 0x43
  | .lineQuery => 0x44
  | .fetch => 0x50
  | .reset => 0x7F

/-- The request kinds whose OK is not counted (R180). -/
def RequestKind.uncounted : RequestKind → Bool
  | .ident | .jobQuery | .canisterQuery | .lineQuery | .reset => true
  | _ => false

/-- The result codes (Result codes). -/
inductive Result where
  | ok | clamped | deferred | badLength | badField | unknownKind | dupTag | noJob | tableFull | noColourant | insufficient
  | overload | tooLate | wrongState | asleep | estopActive | occupied | declined
  deriving DecidableEq, Repr

/-- The byte of a result (Result codes). -/
def Result.code : Result → Byte
  | .ok => 0x00
  | .clamped => 0x01
  | .deferred => 0x02
  | .badLength => 0x10
  | .badField => 0x11
  | .unknownKind => 0x12
  | .dupTag => 0x20
  | .noJob => 0x21
  | .tableFull => 0x22
  | .noColourant => 0x23
  | .insufficient => 0x24
  | .overload => 0x25
  | .tooLate => 0x26
  | .wrongState => 0x30
  | .asleep => 0x31
  | .estopActive => 0x32
  | .occupied => 0x33
  | .declined => 0x34

/-- The results that a counted request is counted for (R180). -/
def Result.accepted : Result → Bool
  | .ok | .clamped | .deferred => true
  | _ => false

/-- The LINK_ERR codes (Result codes). -/
def LinkErr.code : LinkErr → Byte
  | .badCheck => 0x01
  | .truncated => 0x02
  | .overrun => 0x03

/-- OK, or CLAMPED where a field was brought into its range (R57, R58, R152, R159, R170). -/
def okOrClamped (clamped : Bool) : Result := if clamped then .clamped else .ok

/-! ## Codes of states in replies and reports -/

/-- The codes of the job states (R4). -/
def JobState.code : JobState → Nat
  | .queued => 1
  | .dosing => 2
  | .parked _ _ => 3
  | .dosed => 4
  | .mixing => 5
  | .mixed => 6
  | .lidding => 7
  | .done => 8
  | .failed _ => 9
  | .cancelled => 10

/-- The codes of a park reason (R23, R111). -/
def ParkReason.code : ParkReason → Nat
  | .preempt => 1
  | .waitColourant => 2

/-- The codes of a fail reason (R11, R23). -/
def FailReason.code : FailReason → Nat
  | .mixFault => 1
  | .lidFault => 2

/-- The codes of a dose verdict (R23). -/
def DoseVerdict.code : DoseVerdict → Nat
  | .none => 0
  | .inTol => 1
  | .under => 2
  | .over => 3

/-- The codes of a job verdict (R11, R23). -/
def JobVerdict.code : JobVerdict → Nat
  | .inTol => 0
  | .outOfTol => 1

/-- The codes of a canister state (R52). -/
def CanisterState.code : CanisterState → Nat
  | .ready => 1
  | .low => 2
  | .short _ => 3
  | .check => 4
  | .offline => 5

/-- The codes of a short cause (R52, R62). -/
def ShortCause.code : ShortCause → Nat
  | .float => 1
  | .belowReserved => 2

/-- The short cause code of a canister state, 0 where absent (R52). -/
def CanisterState.causeCode : CanisterState → Nat
  | .short c => c.code
  | _ => 0

/-- The codes of a drive state (R64). -/
def DriveState.code : DriveState → Nat
  | .idle => 1
  | .dosing _ => 2
  | .stirring _ _ => 3
  | .faulted _ => 4

/-- The codes of a fault detail (R73, R79). -/
def FaultDetail.code : FaultDetail → Nat
  | .dose => 1
  | .stir => 2

/-- The fault detail code of a drive state, 0 where absent (R79). -/
def DriveState.faultCode : DriveState → Nat
  | .faulted d => d.code
  | _ => 0

/-- The codes of a station state (R81). -/
def StationState.code : StationState → Nat
  | .empty => 1
  | .tareWait => 2
  | .drawing => 3
  | .unparking => 4
  | .weighing _ => 5
  | .dosing => 6
  | .waitDrive => 7
  | .parking => 8
  | .discharging => 9
  | .held => 10
  | .rejecting => 11
  | .blocked => 12
  | .stray => 13

/-- The codes of a shelf state (R109). -/
def Shelf.code : Shelf → Nat
  | .free => 0
  | .claimedPark _ => 1
  | .holding _ => 2
  | .claimedUnpark _ => 3

/-- The tag of a shelf (R109). -/
def Shelf.tag : Shelf → Option Tag
  | .free => none
  | .claimedPark t => some t
  | .holding t => some t
  | .claimedUnpark t => some t

/-- The codes of a mixer state (R125). -/
def MixerState.code : MixerState → Nat
  | .idle => 1
  | .loading => 2
  | .running _ => 3
  | .reclamp => 4
  | .unloading => 5
  | .holding => 6
  | .fault => 7

/-- The codes of a press state (R140). -/
def PressState.code : PressState → Nat
  | .idle => 1
  | .waitLid _ => 2
  | .seating _ => 3
  | .reseating => 4
  | .ejecting _ => 5
  | .fault => 6

/-- The code of lid due: 0 absent, 1 FIRST, 2 RETRY (R150). -/
def PressState.lidDueCode : PressState → Nat
  | .waitLid .first => 1
  | .waitLid .retry => 2
  | _ => 0

/-- The codes of a line mode (R153). -/
def LineMode.code : LineMode → Nat
  | .run => 1
  | .quiet => 2
  | .standby => 3
  | .sleep => 4
  | .waking => 5
  | .halted => 6

/-- The working mode as a line mode (R153). -/
def WorkMode.line : WorkMode → LineMode
  | .run => .run
  | .quiet => .quiet

/-- The number by which replies and reports name a manifold: 0 for A, 1 for B (R59, R66). -/
def manifoldIndex : Manifold → Nat
  | .a => 0
  | .b => 1

/-- The number of a mixer (R125). -/
def mixerIndex : MixerId → Nat
  | .m0 => 0
  | .m1 => 1

/-- The codes of a report kind (R166). -/
def ReportKind.code : ReportKind → Nat
  | .jobDone => 0x01
  | .jobFailed => 0x02
  | .jobCancelled => 0x03
  | .canisterLow => 0x10
  | .canisterShort => 0x11
  | .canisterCheck => 0x12
  | .manifoldStale => 0x13
  | .manifoldFault => 0x14
  | .mixerFault => 0x20
  | .pressFault => 0x21
  | .stockOut => 0x22
  | .strayLoad => 0x23
  | .stationBlocked => 0x24
  | .estop => 0x30
  | .mode => 0x31
  | .jobParked => 0x32

/-- The twelve bytes of a report record (Layouts, Report record). -/
def Record.bytes (r : Record) : List Byte :=
  enc1 r.kind.code ++ enc1 r.detail ++ enc2 r.subject ++ enc4 r.value ++ enc4 r.time.toNat

/-! ## Request bodies as fields -/

/-- The fields of an ORDER body (Layouts, ORDER body). -/
structure OrderBody where
  tag : Nat
  size : Nat
  base : Nat
  strength : Nat
  flags : Byte
  mix : Nat
  count : Nat
  lines : List (Nat × Nat)
  deriving DecidableEq, Repr

/-- The formula lines of an ORDER body: a colourant code and a two-byte amount each (Layouts, ORDER body). -/
def parseLines : List Byte → List (Nat × Nat)
  | c :: h :: l :: rest => (c.toNat, beNat [h, l]) :: parseLines rest
  | _ => []

/-- The ORDER body, where its length is at least 9 and equals 9 + 3n (R13). -/
def parseOrder : Body → Option OrderBody
  | t1 :: t0 :: z :: b :: s :: f :: m1 :: m0 :: n :: rest =>
    if rest.length = 3 * n.toNat then
      some { tag := beNat [t1, t0], size := z.toNat, base := b.toNat, strength := s.toNat, flags := f,
             mix := beNat [m1, m0], count := n.toNat, lines := parseLines rest }
    else none
  | _ => none

/-- The flag bits of an ORDER (Layouts, ORDER body). -/
def OrderBody.rush (o : OrderBody) : Bool := o.flags.getLsbD 0
/-- The notify flag of an ORDER. -/
def OrderBody.notify (o : OrderBody) : Bool := o.flags.getLsbD 1
/-- The lid-skip flag of an ORDER. -/
def OrderBody.lidSkip (o : OrderBody) : Bool := o.flags.getLsbD 2

/-- The first line whose code or amount fails, as (field index, line index); the code of a line before its amount (R15). -/
def lineFieldError (line : Nat) : List (Nat × Nat) → Option (Nat × Nat)
  | [] => none
  | (code, amount) :: rest =>
    if code = 0 ∨ 250 < code then some (8, line)
    else if amount = 0 ∨ 60000 < amount then some (9, line)
    else lineFieldError (line + 1) rest

/-- The first field of an ORDER that fails, as (field index, line index) (R15). -/
def OrderBody.fieldError (o : OrderBody) : Option (Nat × Nat) :=
  if o.tag = 0 then some (1, 0)
  else if 4 < o.size then some (2, 0)
  else if 3 < o.base then some (3, 0)
  else if o.strength < 10 ∨ 200 < o.strength then some (4, 0)
  else if o.flags &&& 0xF8 ≠ 0 then some (5, 0)
  else if 8 < o.count then some (7, 0)
  else lineFieldError 1 o.lines

/-- The mix override of an ORDER: absent for 0, otherwise clamped into 30 to 600 (R15). -/
def OrderBody.mixOverride (o : OrderBody) : Option Nat := if o.mix = 0 then none else some (min 600 (max 30 o.mix))

/-- Whether the mix override was clamped (R15). -/
def OrderBody.mixClamped (o : OrderBody) : Bool := o.mix ≠ 0 && (o.mix < 30 || 600 < o.mix)

/-- A number brought to the nearest end of its range (00_scope.md, Terms: Clamped). -/
def clampTo (lo hi n : Nat) : Nat := min hi (max lo n)

/-- Whether a number lies outside its range. -/
def outside (lo hi n : Nat) : Bool := n < lo || hi < n

/-- The settings of a LINE_SET body, each clamped into its range (R159). -/
def settingsOf (interval duration heartbeat tolerance timeout l0 l1 l2 l3 notifyAll : Nat) : Settings :=
  { stirInterval := clampTo 10 240 interval, stirDuration := clampTo 30 300 duration, heartbeat := heartbeat ≠ 0,
    tolerance := clampTo 1 10 tolerance, idleTimeout := clampTo 30 3600 timeout,
    loadLimits := #v[clampTo 10 200 l0, clampTo 10 200 l1, clampTo 10 200 l2, clampTo 10 200 l3],
    notifyAll := notifyAll ≠ 0 }

/-- Whether any LINE_SET field was clamped or taken as on (R159). -/
def settingsClamped (interval duration heartbeat tolerance timeout l0 l1 l2 l3 notifyAll : Nat) : Bool :=
  outside 10 240 interval || outside 30 300 duration || 1 < heartbeat || outside 1 10 tolerance || outside 30 3600 timeout
    || outside 10 200 l0 || outside 10 200 l1 || outside 10 200 l2 || outside 10 200 l3 || 1 < notifyAll

/-- The settings in the order of R159, as LINE_SET and LINE_QUERY replies carry them. -/
def Settings.bytes (t : Settings) : List Byte :=
  enc1 t.stirInterval ++ enc2 t.stirDuration ++ encFlag t.heartbeat ++ enc1 t.tolerance ++ enc2 t.idleTimeout
    ++ enc1 t.loadLimits[0] ++ enc1 t.loadLimits[1] ++ enc1 t.loadLimits[2] ++ enc1 t.loadLimits[3] ++ encFlag t.notifyAll

end Sys2Proof.Machine
end

