-- ==== Sys2Proof/Machine/Flags.lean ====
section
/-! DEFINITION. Everything the part derives from its records: which jobs are unfinished and selectable, which canisters are free,
available and dispensable, when a stir is due, when the cell is powered, when the line is idle, when ATTN stands. -/

namespace Sys2Proof.Machine

/-! ## Access -/

/-- The drive of a manifold (R64). -/
def State.drive (s : State) : Manifold → Drive
  | .a => s.drives.a
  | .b => s.drives.b

/-- A mixer's record (R125). -/
def State.mixer (s : State) : MixerId → Mixer
  | .m0 => s.mixers.m0
  | .m1 => s.mixers.m1

/-- A canister's record (R42). -/
def State.canister (s : State) (c : CanisterId) : Canister := s.bank[c]

/-- The manifold a canister sits on (R42). -/
def manifoldOf (c : CanisterId) : Manifold := if c.val < 8 then .a else .b

/-! ## Jobs -/

/-- A finished job is DONE, FAILED or CANCELLED (R1). -/
def Job.finished (j : Job) : Bool :=
  match j.state with
  | .done | .failed _ | .cancelled => true
  | _ => false

/-- An unfinished job with a tag: the job a notice can name (R4, R5). -/
def Job.live (j : Job) (t : Tag) : Bool := j.tag == t && !j.finished

/-- The record that carries a tag (R4). -/
def State.findJob (s : State) (t : Tag) : Option Job := s.orders.jobs.find? (fun j => j.tag == t)

/-- The unfinished job that carries a tag (R4). -/
def State.liveJob (s : State) (t : Tag) : Option Job := s.orders.jobs.find? (fun j => j.live t)

/-- The steps of a dose still to be delivered (R3). -/
def Dose.outstanding (d : Dose) : Nat := d.steps - d.delivered

/-- The delivered steps of a job, top-up steps included (R11). -/
def Job.delivered (j : Job) : Nat := (j.doses.map (·.delivered)).sum

/-- The total steps of a job's dose list (R18, R29). -/
def Job.totalSteps (j : Job) : Nat := (j.doses.map (·.steps)).sum

/-- Whether a job is QUEUED (R4). -/
def Job.isQueued (j : Job) : Bool := j.state == .queued

/-- The park number of a PARKED job (R2). -/
def Job.parkNumber (j : Job) : Nat :=
  match j.state with
  | .parked _ n => n
  | _ => 0

/-- Whether a job is PARKED (R4). -/
def Job.isParked (j : Job) : Bool :=
  match j.state with
  | .parked _ _ => true
  | _ => false

/-! ## Line modes -/

/-- The line works: its mode is RUN or QUIET (R153). -/
def State.working (s : State) : Bool := s.line.mode == .run || s.line.mode == .quiet

/-- The weigh cell is powered in RUN, QUIET and WAKING, and in HALTED when the saved mode is RUN or QUIET (R82, R153). -/
def State.cellPowered (s : State) : Bool :=
  match s.line.mode with
  | .run | .quiet | .waking => true
  | .standby | .sleep => false
  | .halted => s.line.saved == some .run || s.line.saved == some .quiet

/-- The line is idle while all four presence flags are clear (R155). -/
def Presence.idle (p : Presence) : Bool := !p.jobsQueued && !p.tinAtStation && !p.tinInMix && !p.tinInLid

/-- The number of shelves not FREE (R122). -/
def Rack.inUse (r : Rack) : Nat := (r.shelves.toList.filter (fun x => x != .free)).length

/-- The rack is empty when all four shelves are FREE (R109). -/
def Rack.isEmpty (r : Rack) : Bool := r.inUse == 0

/-- The presence flags as the blocks' records stand (R155): the number of QUEUED jobs (R12), the station and rack (R107, R109),
the mix lane and mixers with FAULT (R137), the lid lane with held places and the press (R150). -/
def State.presenceNow (s : State) : Presence :=
  { jobsQueued := s.orders.jobs.any (·.isQueued)
    tinAtStation := s.station.job.isSome || !s.rack.isEmpty
    tinInMix := !s.mixers.lane.isEmpty || s.mixers.m0.state != .idle || s.mixers.m1.state != .idle
    tinInLid := !s.press.lane.isEmpty || s.press.heldPlaces != 0 || s.press.tag.isSome }

/-! ## Drives and canisters -/

/-- Whether a drive is FAULTED (R64). -/
def Drive.isFaulted (d : Drive) : Bool :=
  match d.state with
  | .faulted _ => true
  | _ => false

/-- The run in progress on a drive (R64). -/
def Drive.run? (d : Drive) : Option DoseRun :=
  match d.state with
  | .dosing r => some r
  | _ => none

/-- A stir is due when the stir clock is at least the interval, or the stale flag is set (R66). -/
def Drive.due (d : Drive) (t : Settings) : Bool := d.stirClock ≥ t.stirInterval * 60 || d.stale

/-- The stir clock has reached the interval plus the grace period (R66). -/
def Drive.overdue (d : Drive) (t : Settings) : Bool := d.stirClock ≥ t.stirInterval * 60 + Config.graceSeconds

/-- Whether a drive may start a stir in the present line mode (R67). -/
def State.stirAllowed (s : State) (m : Manifold) : Bool :=
  !(s.drive m).halted &&
  match s.line.mode with
  | .run | .quiet | .standby | .waking => true
  | .sleep => s.line.settings.heartbeat
  | .halted => false

/-- READY or LOW: in service (R42). -/
def Canister.inService (c : Canister) : Bool := c.state == .ready || c.state == .low

/-- The run on a canister: its manifold's drive is DOSING with a run on it (R64). -/
def State.runOn (s : State) (c : CanisterId) : Option DoseRun :=
  match (s.drive (manifoldOf c)).run? with
  | some r => if r.canister = c then some r else none
  | none => none

/-- A dose is running on the canister (R42, R64). -/
def State.running (s : State) (c : CanisterId) : Bool := (s.runOn c).isSome

/-- The steps asked by a top-up run in progress on a canister (R43). -/
def State.topUpAsked (s : State) (c : CanisterId) : Nat :=
  match s.runOn c with
  | some r => if r.topUp then r.asked else 0
  | none => 0

/-- Free steps (R43). -/
def State.free (s : State) (c : CanisterId) : Nat :=
  let k := s.canister c
  if k.inService then k.usable - k.reserved - s.topUpAsked c else 0

/-- Available: READY or LOW on a manifold whose drive is not FAULTED (R43). -/
def State.available (s : State) (c : CanisterId) : Bool :=
  (s.canister c).inService && !(s.drive (manifoldOf c)).isFaulted

/-- Dispensable: available, and its manifold is not stale (R43). -/
def State.dispensable (s : State) (c : CanisterId) : Bool := s.available c && !(s.drive (manifoldOf c)).stale

/-! ## Selection (R112, R113, R117) -/

/-- A dose of a job is available when it has outstanding steps and its canister is available (R112). -/
def State.doseAvailable (s : State) (d : Dose) : Bool := 0 < d.outstanding && s.available d.canister

/-- A QUEUED job is ready when the canister of every dose is available (R112). -/
def State.ready (s : State) (j : Job) : Bool := j.isQueued && j.doses.all (fun d => s.available d.canister)

/-- A ready job is drawable when the tin count of its size is above 0 (R112). -/
def State.drawable (s : State) (j : Job) : Bool := s.ready j && 0 < s.magazines.tins[j.size]

/-- A PARKED job, its cancel pending clear, has progress when at least one of its doses is available (R112). -/
def State.hasProgress (s : State) (j : Job) : Bool := j.isParked && !j.cancelPending && j.doses.any (s.doseAvailable ·)

/-- A PARKED job whose cancel pending flag is set is to be retrieved (R112). -/
def Job.toRetrieve (j : Job) : Bool := j.isParked && j.cancelPending

/-- The job with the lowest number. -/
def lowestBy (number : Job → Nat) : List Job → Option Job
  | [] => none
  | j :: rest =>
    match lowestBy number rest with
    | none => some j
    | some k => if number k < number j then some k else some j

/-- Rank 1 (R113). -/
def State.rank1 (s : State) : Option Job := lowestBy (·.parkNumber) (s.orders.jobs.filter (·.toRetrieve))
/-- Ranks 2 and 4: a parked job of a class with progress (R113). -/
def State.rankParked (s : State) (c : OrderClass) : Option Job :=
  lowestBy (·.parkNumber) (s.orders.jobs.filter (fun j => j.cls == c && s.hasProgress j))
/-- Ranks 3 and 5: a drawable queued job of a class (R113). -/
def State.rankQueued (s : State) (c : OrderClass) : Option Job :=
  lowestBy (·.admission) (s.orders.jobs.filter (fun j => j.cls == c && s.drawable j))

/-- What a selection offers (R86). -/
inductive Selection where
  | draw (j : Job)
  | unpark (j : Job)
  deriving DecidableEq, Repr

/-- The order of preference (R113). -/
def State.selection (s : State) : Option Selection :=
  match s.rank1 with
  | some j => some (.unpark j)
  | none =>
    match s.rankParked .rush with
    | some j => some (.unpark j)
    | none =>
      match s.rankQueued .rush with
      | some j => some (.draw j)
      | none =>
        match s.rankParked .normal with
        | some j => some (.unpark j)
        | none => (s.rankQueued .normal).map .draw

/-- A RUSH candidate is a job that rank 2 or rank 3 would offer (R117). -/
def State.rushCandidate (s : State) : Bool := (s.rankParked .rush).isSome || (s.rankQueued .rush).isSome

/-- The lowest-numbered FREE shelf (R110). -/
def Rack.freeShelf (r : Rack) : Option ShelfId := (List.finRange 4).find? (fun i => r.shelves[i] == .free)

/-- The shelf on which a job's tin stands (R109). -/
def Rack.shelfHolding (r : Rack) (t : Tag) : Option ShelfId := (List.finRange 4).find? (fun i => r.shelves[i] == .holding t)

/-- A free place of the mix lane (R124). -/
def MixerPool.hasPlace (p : MixerPool) : Bool := p.lane.length + p.heldPlace.toNat < Config.lanePlaces

/-- A free place of the lid lane (R139). -/
def LidPress.hasPlace (p : LidPress) : Bool := p.lane.length + p.heldPlaces < Config.lanePlaces

/-! ## The weigh cell -/

/-- The platform is stable: the cell has been powered and tracked for 2.5 s, and the readings of that time differ by at most two
counts (R82). -/
def WeighCell.stable (w : WeighCell) : Bool :=
  w.tracked ≥ Config.stableMs && w.window.all (fun x => w.window.all (fun y => x.2 - y.2 ≤ Config.stableCounts))

/-- A reading is near zero when it lies within 50 g of the zero, either side (R82). DESIGN CHOICE, unsafe (log 37): one that lies exactly
5,000 counts from the zero is near zero, as "within 5,000 counts" of R82 has it, while R83 says that each retake moves the zero by less
than 50 g. -/
def WeighCell.nearZero (w : WeighCell) : Bool :=
  w.latest - w.zero ≤ Config.nearZeroCounts && w.zero - w.latest ≤ Config.nearZeroCounts

/-! ## Reports -/

/-- The urgency of a record by its kind; that of a job's end is decided by the job's notify flag and notify-all (R167). -/
def ReportKind.urgent (k : ReportKind) (notify : Bool) : Bool :=
  match k with
  | .jobDone | .jobFailed | .jobCancelled => notify
  | .mode | .jobParked => false
  | _ => true

/-- ATTN stands exactly while the queue holds an urgent record (R171). -/
def Reports.attention (r : Reports) : Bool := r.queue.any (·.urgent)

/-! ## The receive buffer -/

/-- The bytes a place in the order of service takes in the buffer: a request its received bytes, LEN + 4; a LINK_ERR none
(R177). -/
def Service.bytes : Service → Nat
  | .request _ body => body.length + 5
  | .linkErr _ => 0

/-- The received bytes of the open frame (R174, R177). -/
def Assembler.bytes : Assembler → Nat
  | .hunt => 0
  | .length => 1
  | .kind _ => 2
  | .body _ _ b => b.length + 3
  | .check _ _ b h => b.length + 3 + h.isSome.toNat

/-- The bytes the receive buffer holds (R177). -/
def Link.buffered (l : Link) : Nat := (l.service.map (·.bytes)).sum + l.assembler.bytes

/-- The LINK_ERR replies owed for discarded frames, an owed OVERRUN apart (R177). -/
def Link.owed (l : Link) : Nat :=
  (l.service.filter (fun x => x == .linkErr .badCheck || x == .linkErr .truncated)).length

end Sys2Proof.Machine
end

