-- ==== Sys2Proof/Machine/Ops.lean ====
section
/-! DEFINITION. The shared operations of the blocks that own records: posting a report (Report Queue), moving and finishing a job
(Order Table), the account and the state of a canister (Colourant Bank), the magazine counts, and the answer of a drive to a dose
request (Manifold Drives). -/

namespace Sys2Proof.Machine

/-! ## Record updates -/

/-- Writes a drive's record. -/
def State.setDrive (s : State) (m : Manifold) (d : Drive) : State :=
  match m with
  | .a => { s with drives := { s.drives with a := d } }
  | .b => { s with drives := { s.drives with b := d } }

/-- Writes a mixer's record. -/
def State.setMixer (s : State) (k : MixerId) (x : Mixer) : State :=
  match k with
  | .m0 => { s with mixers := { s.mixers with m0 := x } }
  | .m1 => { s with mixers := { s.mixers with m1 := x } }

/-- Writes a canister's record. -/
def State.setCanister (s : State) (c : CanisterId) (k : Canister) : State := { s with bank := s.bank.set c.val k c.isLt }

/-- Writes a shelf's record. -/
def State.setShelf (s : State) (i : ShelfId) (x : Shelf) : State :=
  { s with rack := { s.rack with shelves := s.rack.shelves.set i.val x i.isLt } }

/-! ## The Report Queue -/

/-- The overflow count rises by 1 and stays at 255 (R169). -/
def overflowUp (n : Nat) : Nat := min Config.overflowTop (n + 1)

/-- Placing a record: at the tail while there is room; into a full queue an urgent record displaces the oldest non-urgent one, and
any other is discarded (R166, R168). -/
def Reports.add (r : Reports) (e : Entry) : Reports :=
  if r.queue.length < Config.reportSlots then { r with queue := r.queue ++ [e] }
  else if e.urgent && r.queue.any (fun x => !x.urgent) then
    { queue := r.queue.eraseP (fun x => !x.urgent) ++ [e], overflow := overflowUp r.overflow }
  else { r with overflow := overflowUp r.overflow }

/-- Puts a report queue into the state and drives ATTN from it (R171, R182). -/
def State.withReports (s : State) (r : Reports) : State :=
  { s with reports := r, link := { s.link with attn := r.attention } }

/-- Posts a record at the present line clock (R166, R167). -/
def State.postAs (s : State) (notify : Bool) (kind : ReportKind) (detail subject value : Nat) : State :=
  s.withReports (s.reports.add
    { record := { kind := kind, detail := detail, subject := subject, value := value, time := s.line.clock },
      urgent := kind.urgent notify })

/-- Posts a record whose urgency is its kind's alone (R167). -/
def State.post (s : State) (kind : ReportKind) (detail subject value : Nat) : State := s.postAs false kind detail subject value

/-! ## The Colourant Bank: accounts and states -/

/-- READY or LOW by the comparison of usable with the low mark (R44). -/
def serviceState (usable lowMark : Nat) : CanisterState := if usable < lowMark then .low else .ready

/-- The test of a SHORT canister for a return to service (R51). -/
def Canister.retest (k : Canister) : Canister :=
  match k.state with
  | .short _ =>
    if k.tripped then { k with state := .short .float }
    else if k.reserved ≤ k.usable then { k with state := serviceState k.usable k.lowMark }
    else { k with state := .short .belowReserved }
  | _ => k

/-- The account after a run end: usable falls by the steps pumped, clamped at 0; reserved falls by them unless the run was a top-up
(R45 steps 1 and 2, R46). -/
def Canister.charge (k : Canister) (pumped : Nat) (topUp : Bool) : Canister :=
  { k with usable := k.usable - pumped, reserved := if topUp then k.reserved else k.reserved - pumped }

/-- The comparison of R44 for a canister in service, the test of R51 for one that is SHORT (R45 step 3). -/
def Canister.reexamine (k : Canister) : Canister :=
  if k.inService then { k with state := serviceState k.usable k.lowMark } else k.retest

/-- A pending OFFLINE is completed (R54). -/
def Canister.completeOffline (k : Canister) : Canister :=
  if k.offlinePending then { k with state := .offline, offlinePending := false } else k

/-- A run end notice (R45, R46, R54); READY becoming LOW posts CANISTER_LOW (R44, R62). DESIGN CHOICE, unsafe (log 34): it is posted too
where the same run end completes a pending OFFLINE, since step 3 of R45 stands before step 4, while R54 says that no report is posted. -/
def State.bankRunEnd (s : State) (c : CanisterId) (pumped : Nat) (topUp : Bool) : State :=
  let before := s.canister c
  let after := (before.charge pumped topUp).reexamine
  let s1 := s.setCanister c after.completeOffline
  if before.state = .ready ∧ after.state = .low then s1.post .canisterLow 0 c.val after.usable else s1

/-- The miss count after a verdict (R60). -/
def missAfter (miss : Nat) : DoseVerdict → Nat
  | .none => miss
  | .inTol => 0
  | .under | .over => min 3 (miss + 1)

/-- The state of a canister whose miss count has just reached 3 (R61). -/
def Canister.toCheck (k : Canister) : Canister :=
  match k.state with
  | .ready | .low | .short _ => { k with state := .check }
  | .check | .offline => k

/-- A verdict notice (R60); a miss count reaching 3 posts CANISTER_CHECK (R61). -/
def State.verdictNotice (s : State) (c : CanisterId) (v : DoseVerdict) : State :=
  let k := s.canister c
  let miss := missAfter k.missCount v
  let k1 := { k with missCount := miss }
  if miss = 3 ∧ k.missCount ≠ 3 then (s.setCanister c k1.toCheck).post .canisterCheck 0 c.val 0
  else s.setCanister c k1

/-- Bringing a canister toward service, from the float condition on (R55, R56). -/
def State.examine (s : State) (c : CanisterId) : State :=
  let k := s.canister c
  if k.tripped then
    (s.setCanister c { k with state := .short .float, usable := 0 }).post .canisterShort ShortCause.float.code c.val 0
  else if k.usable < k.reserved then
    (s.setCanister c { k with state := .short .belowReserved }).post .canisterShort ShortCause.belowReserved.code c.val k.usable
  else s.setCanister c { k with state := serviceState k.usable k.lowMark }

/-- The outstanding steps of a dose leave its canister's reserved steps, and a SHORT canister is tested (R11, R47, R51). -/
def State.releaseDose (s : State) (d : Dose) : State :=
  let k := s.canister d.canister
  s.setCanister d.canister { k with reserved := k.reserved - d.outstanding }.retest

/-- A dose is reserved on its canister (R33). -/
def State.reserveDose (s : State) (d : Dose) : State :=
  let k := s.canister d.canister
  s.setCanister d.canister { k with reserved := k.reserved + d.steps }

/-! ## The Order Table: notices and finishing -/

/-- Changes the unfinished job that carries a tag (R4, R5). -/
def State.updateLive (s : State) (t : Tag) (f : Job → Job) : State :=
  { s with orders := { s.orders with jobs := s.orders.jobs.map (fun j => if j.live t then f j else j) } }

/-- A notice: the job takes the new state when it is unfinished and in the "From" state of the notice's row (R5). DEDUCED, safe (log 22): any
other notice changes nothing; R5 says that none arises. -/
def State.moveJob (s : State) (t : Tag) (fromState : JobState → Bool) (f : Job → Job) : State :=
  s.updateLive t (fun j => if fromState j.state then f j else j)

/-- The rows of the transition table that end in a finished state (R4). -/
def JobState.mayFinish : JobState → JobState → Bool
  | .mixing, .done => true
  | .lidding, .done => true
  | .mixing, .failed .mixFault => true
  | .lidding, .failed .lidFault => true
  | .queued, .cancelled => true
  | .dosing, .cancelled => true
  | _, _ => false

/-- The report of a job's end (R11 step 4). -/
def State.postFinish (s : State) (j : Job) (fin : JobState) : State :=
  let notify := j.notify || s.line.settings.notifyAll
  match fin with
  | .done => s.postAs notify .jobDone j.verdict.code j.tag j.delivered
  | .failed r => s.postAs notify .jobFailed r.code j.tag 0
  | .cancelled => s.postAs notify .jobCancelled 0 j.tag j.delivered
  | _ => s

/-- The finish counter takes a value (R1). -/
def State.setFinishCounter (s : State) (n : Nat) : State := { s with orders := { s.orders with finishCounter := n } }

/-- Finishing a job (R11): the finish number and time, the release of its reservations where it is CANCELLED, and its report. DEDUCED, safe
(log 22): a notice that names no unfinished job, or one outside the "From" state of its row, changes nothing. -/
def State.finishJob (s : State) (t : Tag) (fin : JobState) : State :=
  match s.liveJob t with
  | none => s
  | some j =>
    if j.state.mayFinish fin then
      let n := s.orders.finishCounter + 1
      let s1 := s.updateLive t (fun k => { k with state := fin, finish := some { number := n, time := s.line.clock } })
      let s2 := s1.setFinishCounter n
      let s3 := if fin = .cancelled then j.doses.foldl State.releaseDose s2 else s2
      s3.postFinish j fin
    else s

/-- A draw starts: QUEUED to DOSING (R6). -/
def State.jobDrawn (s : State) (t : Tag) : State := s.moveJob t (· == .queued) (fun j => { j with state := .dosing })

/-- A draw found no tin: DOSING to QUEUED, and CANCELLED at once where cancel pending is set (R6). -/
def State.jobUndrawn (s : State) (t : Tag) : State :=
  let s1 := s.moveJob t (· == .dosing) (fun j => { j with state := .queued })
  match s1.liveJob t with
  | some j => if j.cancelPending then s1.finishJob t .cancelled else s1
  | none => s1

/-- A park ended: DOSING to PARKED, with the reason and the park number (R7). -/
def State.jobParked (s : State) (t : Tag) (reason : ParkReason) (number : Nat) : State :=
  s.moveJob t (· == .dosing) (fun j => { j with state := .parked reason number })

/-- An unpark starts: PARKED to DOSING (R7). -/
def State.jobUnparked (s : State) (t : Tag) : State :=
  s.updateLive t (fun j => if j.isParked then { j with state := .dosing } else j)

/-- The job is fully dosed: DOSING to DOSED (R8). -/
def State.jobDosed (s : State) (t : Tag) : State := s.moveJob t (· == .dosing) (fun j => { j with state := .dosed })

/-- A load starts: DOSED to MIXING, with mixer used (R9, R127). -/
def State.jobLoaded (s : State) (t : Tag) (k : MixerId) : State :=
  s.moveJob t (· == .dosed) (fun j => { j with state := .mixing, mixerUsed := some k })

/-- MIXING to MIXED (R9). -/
def State.jobMixed (s : State) (t : Tag) : State := s.moveJob t (· == .mixing) (fun j => { j with state := .mixed })

/-- A feed starts: MIXED to LIDDING (R10). -/
def State.jobFed (s : State) (t : Tag) : State := s.moveJob t (· == .mixed) (fun j => { j with state := .lidding })

/-- Changes the doses of a job that carry a colourant code. -/
def Job.mapDose (j : Job) (code : Nat) (f : Dose → Dose) : Job :=
  { j with doses := j.doses.map (fun d => if d.code = code then f d else d) }

/-! ## Magazine Counts -/

/-- A tin count takes a value; a count passing from above 0 to 0 posts STOCK_OUT (R151). -/
def State.tinsTo (s : State) (z : Size) (n : Nat) : State :=
  let s1 := { s with magazines := { s.magazines with tins := s.magazines.tins.set z.val n z.isLt } }
  if 0 < s.magazines.tins[z] ∧ n = 0 then s1.post .stockOut 0 (1 * 256 + z.val) 0 else s1

/-- A lid count takes a value; a count passing from above 0 to 0 posts STOCK_OUT (R151). -/
def State.lidsTo (s : State) (z : Size) (n : Nat) : State :=
  let s1 := { s with magazines := { s.magazines with lids := s.magazines.lids.set z.val n z.isLt } }
  if 0 < s.magazines.lids[z] ∧ n = 0 then s1.post .stockOut 0 (2 * 256 + z.val) 0 else s1

/-- A tin draw lowers the count by 1 (R151). -/
def State.drawTin (s : State) (z : Size) : State := s.tinsTo z (s.magazines.tins[z] - 1)

/-- A lid draw lowers the count by 1 and puts a lid in the press head (R141, R143, R145, R151). -/
def State.drawLid (s : State) (z : Size) : State :=
  let s1 := s.lidsTo z (s.magazines.lids[z] - 1)
  { s1 with press := { s1.press with lidInHead := true } }

/-! ## Manifold Drives -/

/-- A drive's answer to a dose request (R70). -/
inductive DriveAnswer where
  | accepted
  | halted
  | faulted
  | busy
  | canister
  deriving DecidableEq, Repr

/-- The answer of the drive to a request for a canister: the first case that holds decides (R70). -/
def State.driveAnswer (s : State) (c : CanisterId) : DriveAnswer :=
  let d := s.drive (manifoldOf c)
  let k := s.canister c
  if d.halted then .halted
  else
    match d.state with
    | .faulted _ => .faulted
    | .dosing _ | .stirring _ _ => .busy
    | .idle => if !k.inService || k.offlinePending then .canister else .accepted

/-- An accepted dose request: the drive becomes DOSING with the run, its pumped count at 0 (R70). -/
def State.startRun (s : State) (t : Tag) (code : Nat) (c : CanisterId) (asked : Nat) (topUp : Bool) : State :=
  s.setDrive (manifoldOf c)
    { s.drive (manifoldOf c) with
      state := .dosing { tag := t, code := code, canister := c, asked := asked, topUp := topUp, pumped := 0 } }

/-- The stir test: an IDLE drive with a stir due starts a stir where the line mode allows (R68). -/
def State.stirTest (s : State) (m : Manifold) : State :=
  let d := s.drive m
  if d.state = .idle ∧ d.due s.line.settings ∧ s.stirAllowed m then
    s.setDrive m { d with state := .stirring 0 s.line.settings.stirDuration }
  else s

/-- The staleness test: the flag passing from clear to set posts MANIFOLD_STALE (R66). -/
def State.staleTest (s : State) (m : Manifold) : State :=
  let d := s.drive m
  if d.overdue s.line.settings ∧ d.stale = false then
    (s.setDrive m { d with stale := true }).post .manifoldStale 0 (manifoldIndex m) d.stirClock
  else s

end Sys2Proof.Machine
end

