-- ==== Sys2Proof/Machine/MixerOps.lean ====
section
/-! DEFINITION. The shared operations of the Mixer Pool: the mix time, the choice of a mixer, the start of a load, the end of a run,
and the hand-over to the lid lane. -/

namespace Sys2Proof.Machine

/-- The figure of the mix time before the QUIET rule: the override, or the base time and 10 s for each dose beyond the second
(R128). -/
def Job.mixFigure (j : Job) : Nat :=
  match j.mixOverride with
  | some n => n
  | none => Config.baseMixTime j.size + 10 * (j.doses.length - 2)

/-- The mix time: in QUIET the figure times 3, halved, a fraction rounded up (R128). -/
def Job.mixTime (j : Job) (mode : LineMode) : Nat :=
  if mode = .quiet then (j.mixFigure * 3 + 1) / 2 else j.mixFigure

/-- The size limit of a mixer (R125). -/
def mixerTakes (k : MixerId) (z : Size) : Bool :=
  match k with
  | .m0 => true
  | .m1 => z.val ≤ 3

/-- A mixer is eligible for a tin of a size (R126). -/
def State.eligible (s : State) (k : MixerId) (z : Size) : Bool :=
  (s.mixer k).state == .idle && mixerTakes k z && !(k == .m1 && s.line.mode == .quiet) && !(s.mixer k).halted

/-- The mixer that wins the head tin: the lower cycle count, mixer 0 where they are equal (R126). -/
def State.winner (s : State) (z : Size) : Option MixerId :=
  match s.eligible .m0 z, s.eligible .m1 z with
  | true, true => if (s.mixer .m1).cycleCount < (s.mixer .m0).cycleCount then some .m1 else some .m0
  | true, false => some .m0
  | false, true => some .m1
  | false, false => none

/-- The start of a load for the head tag of the lane (R127). -/
def State.startLoad (s : State) (k : MixerId) (j : Job) : State :=
  let s1 := { s with mixers := { s.mixers with lane := s.mixers.lane.tail } }
  let s2 := s1.setMixer k { s1.mixer k with state := .loading, tag := some j.tag, mixTime := some (j.mixTime s.line.mode) }
  s2.jobLoaded j.tag k

/-- The choice of a mixer for the head tin, in RUN or QUIET (R126). -/
def State.chooseMixer (s : State) : State :=
  if s.working then
    match s.mixers.lane with
    | [] => s
    | t :: _ =>
      match s.liveJob t with
      | none => s
      | some j =>
        match s.winner j.size with
        | none => s
        | some k => s.startLoad k j
  else s

/-- A lid-lane place is granted to a mixer, which unloads into it (R131, R132, R139). -/
def State.unloadToLid (s : State) (k : MixerId) : State :=
  let s1 := s.setMixer k { s.mixer k with state := .unloading, lidLanePlace := true }
  { s1 with press := { s1.press with heldPlaces := s1.press.heldPlaces + 1 },
            mixers := { s1.mixers with holdOrder := s1.mixers.holdOrder.filter (· != k) } }

/-- A free place of the lid lane goes to the mixer that entered HOLDING earliest (R132). -/
def State.serveHolding (s : State) : State :=
  match s.mixers.holdOrder with
  | [] => s
  | k :: _ =>
    if s.press.hasPlace && (s.mixer k).state == .holding && !(s.mixer k).halted then s.unloadToLid k else s

/-- A completed run: to the outfeed, to the lid lane, or HOLDING (R131). -/
def State.endMixRun (s : State) (k : MixerId) (j : Job) : State :=
  if j.lidSkip then s.setMixer k { s.mixer k with state := .unloading, lidLanePlace := false }
  else if s.press.hasPlace then s.unloadToLid k
  else
    let s1 := s.setMixer k { s.mixer k with state := .holding }
    State.jobMixed { s1 with mixers := { s1.mixers with holdOrder := s1.mixers.holdOrder ++ [k] } } j.tag

/-- The job in a mixer. -/
def State.mixerJob (s : State) (k : MixerId) : Option Job :=
  match (s.mixer k).tag with
  | none => none
  | some t => s.liveJob t

/-- What the mixers do on a notice: a holding mixer takes a free lid-lane place, and the head tins are handed out (R126, R132). Each
is made twice, for there are two mixers. -/
def State.mixerTest (s : State) : State := s.serveHolding.serveHolding.chooseMixer.chooseMixer

end Sys2Proof.Machine
end

