-- ==== Sys2Proof/Machine/PressOps.lean ====
section
/-! DEFINITION. The shared operations of the Lid Press: the feed, the departure from WAIT_LID, the reseat, and the missing lid. -/

namespace Sys2Proof.Machine

/-- The job whose tin is in the press (R140). -/
def State.pressJob (s : State) : Option Job :=
  match s.press.tag with
  | none => none
  | some t => s.liveJob t

/-- The press takes a state. -/
def State.setPress (s : State) (x : PressState) : State := { s with press := { s.press with state := x } }

/-- The start of a feed for the head tag of the lid lane (R141). -/
def State.startFeed (s : State) (j : Job) : State :=
  let s1 := { s with press := { s.press with lane := s.press.lane.tail, tag := some j.tag, state := .seating .feed } }
  (s1.jobFed j.tag).drawLid j.size

/-- The feed test (R141). -/
def State.feedTest (s : State) : State :=
  match s.press.lane with
  | [] => s
  | t :: _ =>
    match s.liveJob t with
    | none => s
    | some j =>
      if s.press.state = .idle ∧ s.working ∧ s.press.halted = false ∧ 0 < s.magazines.lids[j.size] then s.startFeed j else s

/-- The start of a reseat: the failed lid is stripped and a second lid drawn (R145). -/
def State.startReseat (s : State) (z : Size) : State := (s.setPress .reseating).drawLid z

/-- The exit test of WAIT_LID (R143). -/
def State.waitLidTest (s : State) : State :=
  match s.press.state, s.pressJob with
  | .waitLid due, some j =>
    if s.working ∧ s.press.halted = false ∧ 0 < s.magazines.lids[j.size] then
      match due with
      | .first => (s.setPress (.seating .feed)).drawLid j.size
      | .retry => s.startReseat j.size
    else s
  | _, _ => s

/-- A lid found missing: lid in head is cleared, the count becomes 0, and the press waits for a lid (R142, R145). -/
def State.lidMissing (s : State) (z : Size) (due : LidDue) : State :=
  let s1 := { s with press := { s.press with lidInHead := false, state := .waitLid due } }
  s1.lidsTo z 0

/-- What the press does on a notice (R141, R143). -/
def State.pressTest (s : State) : State := s.feedTest.waitLidTest

end Sys2Proof.Machine
end

