-- ==== Sys2Proof/Machine/StationOps.lean ====
section
/-! DEFINITION. The shared operations of the Dosing Station: its transfers, the decisions of a round boundary, rounds, their
verification, top-ups, run ends, and selection. -/

namespace Sys2Proof.Machine

/-! ## Transfers -/

/-- The station becomes REJECTING (R104). -/
def State.startReject (s : State) : State :=
  { s with station := { s.station with state := .rejecting, transfer := some .reject } }

/-- The station asks for a place of the mix lane: DISCHARGING with the place held, or HELD (R101, R124). -/
def State.askPlace (s : State) : State :=
  if s.mixers.hasPlace then
    { s with mixers := { s.mixers with heldPlace := true },
             station := { s.station with state := .discharging, transfer := some .discharge } }
  else { s with station := { s.station with state := .held, transfer := none } }

/-- The job becomes DOSED and the station asks for a place (R8, R101). -/
def State.becomeDosed (s : State) (t : Tag) : State := (s.jobDosed t).askPlace

/-- A park starts: it claims the lowest-numbered FREE shelf and records the reason (R103, R110). -/
def State.startPark (s : State) (t : Tag) (reason : ParkReason) : State :=
  match s.rack.freeShelf with
  | none => s
  | some i =>
    let s1 := s.setShelf i (.claimedPark t)
    { s1 with station := { s1.station with state := .parking, transfer := some (.park i reason) } }

/-- The station becomes BLOCKED; each entry posts STATION_BLOCKED (R93). -/
def State.block (s : State) (t : Tag) : State :=
  if s.station.state = .blocked then s
  else { s with station := { s.station with state := .blocked } }.post .stationBlocked 0 t 0

/-- The station lets its tin go: job, reading before and round are cleared and it becomes EMPTY (R88, R102, R103, R104). -/
def State.stationEmpty (s : State) : State :=
  { s with station := { s.station with state := .empty, job := none, readingBefore := none, round := none,
                                       firstRound := none, transfer := none } }

/-- The station makes a settle (R82). -/
def State.startSettle (s : State) (purpose : SettleFor) : State :=
  { s with station := { s.station with state := .weighing purpose, transfer := none } }

/-- A shelf becomes FREE; the park counter becomes 0 when the rack becomes empty (R110, R111). -/
def State.freeShelfAt (s : State) (i : ShelfId) : State :=
  let s1 := s.setShelf i .free
  if s1.rack.isEmpty then { s1 with rack := { s1.rack with parkCounter := 0 } } else s1

/-! ## Forming a round -/

/-- The dose picked for a manifold: the first in merged order with outstanding steps, on the manifold, dispensable and with no
OFFLINE pending (R91). -/
def State.pick (s : State) (j : Job) (m : Manifold) : Option Dose :=
  j.doses.find? (fun d => 0 < d.outstanding && manifoldOf d.canister == m && s.dispensable d.canister
    && !(s.canister d.canister).offlinePending)

/-- The dose request for a manifold's pick, marked ordinary: the state after it, and the accepted run (R91). -/
def State.requestPick (s : State) (j : Job) (m : Manifold) : State × List RoundRun :=
  match s.pick j m with
  | none => (s, [])
  | some d =>
    if s.driveAnswer d.canister = .accepted then
      (s.startRun j.tag d.code d.canister d.outstanding false,
       [{ code := d.code, canister := d.canister, asked := d.outstanding, density := (s.canister d.canister).density,
          ended := none }])
    else (s, [])

/-- The next round is formed from the accepted runs, or the station waits for a drive (R91, R92). -/
def State.formRound (s : State) (j : Job) : State :=
  let ra := s.requestPick j .a
  let rb := ra.1.requestPick j .b
  match ra.2 ++ rb.2 with
  | [] => { s with station := { s.station with state := .waitDrive, round := none } }
  | runs =>
    { rb.1 with station := { rb.1.station with state := .dosing,
                                               round := some { runs := runs, topUp := false, interrupted := false } } }

/-- The decisions of a round boundary, in order (R90). -/
def State.boundary (s : State) : State :=
  match s.station.job with
  | none => s
  | some t =>
    match s.liveJob t with
    | none => s
    | some j =>
      if j.cancelPending then s.startReject
      else if j.doses.all (fun d => d.outstanding == 0) then s.becomeDosed t
      else if j.cls == .normal && s.rushCandidate && s.rack.freeShelf.isSome then s.startPark t .preempt
      else if j.doses.all (fun d => d.outstanding == 0 || !s.available d.canister) then
        if s.rack.freeShelf.isSome then s.startPark t .waitColourant else s.block t
      else s.formRound j

/-! ## Verification -/

/-- The expected mass of a run in mg (R34). -/
def expectedMass (pumped density : Nat) : Nat := (pumped * density + 100) / 200

/-- The expected mass of a run of a round (R34, R96). -/
def RoundRun.expected (r : RoundRun) : Nat :=
  match r.ended with
  | some e => expectedMass e.pumped r.density
  | none => 0

/-- The expected mass of a round: the sum over its runs (R34). -/
def Round.expected (r : Round) : Nat := (r.runs.map (·.expected)).sum

/-- The measured mass in mg (R35). -/
def measuredMass (before after : Int) : Int := (after - before) * 10

/-- The tolerance in mg (R36). -/
def toleranceOf (expected percent : Nat) : Nat := max (expected * percent / 100) 20

/-- The verdict of a measured mass against an expected mass and a tolerance (R36). -/
def verdictOf (measured : Int) (expected tolerance : Nat) : DoseVerdict :=
  if measured < (expected : Int) - tolerance then .under
  else if (expected : Int) + tolerance < measured then .over
  else .inTol

/-- The top-up steps for a deficit: the ceiling of deficit × 200 / density (R38). -/
def topUpSteps (deficit density : Nat) : Nat := (deficit * 200 + (density - 1)) / density

/-- UNDER and OVER are out of tolerance (R97). -/
def DoseVerdict.bad : DoseVerdict → Bool
  | .under | .over => true
  | .none | .inTol => false

/-- Recording a verdict: each dose, the job, a notice to each canister, and the round cleared (R97, R100). DESIGN CHOICE, unsafe (log 35):
of a round of two doses manifold A's canister is notified first, so that of two CANISTER_CHECK records posted by them its record stands
first; R60 and R97 give the notices no order, nor does R166 their records. -/
def State.recordVerdict (s : State) (v : DoseVerdict) (doses : List (Nat × CanisterId)) : State :=
  let s1 :=
    match s.station.job with
    | none => s
    | some t =>
      s.updateLive t (fun j =>
        let j1 := doses.foldl (fun (k : Job) x => k.mapDose x.1 (fun d => { d with verdict := v })) j
        { j1 with verdict := if v.bad then .outOfTol else j.verdict })
  let s2 := doses.foldl (fun (k : State) x => k.verdictNotice x.2 v) s1
  { s2 with station := { s2.station with round := none, firstRound := none } }

/-- The job at the station. -/
def State.stationJob (s : State) : Option Job :=
  match s.station.job with
  | none => none
  | some t => s.liveJob t

/-- The top-up steps written for the dose of the first-round figures (R98). -/
def State.topUpDue (s : State) (f : FirstRound) : Nat :=
  match s.stationJob with
  | none => 0
  | some j => ((j.doses.find? (fun d => d.code == f.code)).map (·.topUp)).getD 0

/-- Changes the dose of a colourant code of the job at the station. -/
def State.setTopUp (s : State) (code n : Nat) : State :=
  match s.station.job with
  | none => s
  | some t => s.updateLive t (fun j => j.mapDose code (fun d => { d with topUp := n }))

/-- A top-up is abandoned: its steps return to 0 and the round's UNDER is recorded (R99). The station stands at a boundary
afterwards. -/
def State.abandonTopUp (s : State) (f : FirstRound) : State :=
  let s1 := (s.setTopUp f.code 0).recordVerdict .under [(f.code, f.canister)]
  { s1 with station := { s1.station with state := .waitDrive } }

/-- The top-up request: the free cap is checked again, then the drive answers (R99). -/
def State.requestTopUp (s : State) (f : FirstRound) : State :=
  let n := s.topUpDue f
  if n ≤ s.free f.canister then
    match s.driveAnswer f.canister with
    | .accepted =>
      let s1 := s.startRun (s.station.job.getD 0) f.code f.canister n true
      { s1 with station := { s1.station with
          state := .dosing
          round := some { runs := [{ code := f.code, canister := f.canister, asked := n,
                                     density := (s.canister f.canister).density, ended := none }],
                          topUp := true, interrupted := false } } }
    | .busy => { s with station := { s.station with state := .waitDrive } }
    | .halted | .faulted | .canister => (s.abandonTopUp f).boundary
  else (s.abandonTopUp f).boundary

/-- Whether an UNDER round is topped up, and by how many steps: the round held one dose whose run delivered all of its steps
unhalted, the dose has had no top-up and the job no cancel pending (R37, R98), and the size meets the quarter cap and the free cap
(R38). -/
def State.topUpFor (s : State) (r : Round) (deficit : Nat) : Option (RoundRun × Nat) :=
  match r.runs, s.stationJob with
  | [run], some j =>
    match run.ended with
    | some e =>
      let n := topUpSteps deficit run.density
      if e.cause = .complete ∧ e.pumped = run.asked ∧ j.cancelPending = false
          ∧ (j.doses.any (fun d => d.code == run.code && d.topUp == 0)) ∧ n ≤ e.pumped / 4 ∧ n ≤ s.free run.canister
          ∧ (s.canister run.canister).inService then
        some (run, n)
      else none
    | none => none
  | _, _ => none

/-- The doses of a round with their canisters. -/
def Round.doses (r : Round) : List (Nat × CanisterId) := r.runs.map (fun x => (x.code, x.canister))

/-- Judging a round at the end of the settle that follows it (R96, R97, R98, R100). DESIGN CHOICE, safe (log 36): where a top-up is allowed,
the record of the UNDER round is cleared as its first-round figures are kept, before the top-up request; R98 and R99 do not say whether it
still stands while the top-up is due. -/
def State.judge (s : State) : State :=
  match s.station.round with
  | none => s
  | some r =>
    let after := s.weigh.latest
    let measured := measuredMass (s.station.readingBefore.getD after) after
    let s1 := { s with station := { s.station with readingBefore := some after } }
    match r.topUp, s.station.firstRound with
    | true, some f => (s1.recordVerdict (verdictOf (f.measured + measured) f.expected f.tolerance) r.doses).boundary
    | _, _ =>
      let expected := r.expected
      let tolerance := toleranceOf expected s.line.settings.tolerance
      let v := verdictOf measured expected tolerance
      match (if v = .under ∧ r.topUp = false then s1.topUpFor r ((expected : Int) - measured).toNat else none) with
      | none => (s1.recordVerdict v r.doses).boundary
      | some (run, n) =>
        let f := { code := run.code, canister := run.canister, expected := expected, tolerance := tolerance,
                   measured := measured : FirstRound }
        let s2 := s1.setTopUp run.code n
        State.requestTopUp { s2 with station := { s2.station with round := none, firstRound := some f } } f

/-! ## Run ends -/

/-- Fills a run end into the round's run on a canister (R94). -/
def Round.endRun (r : Round) (c : CanisterId) (e : RunEnd) : Round :=
  { r with runs := r.runs.map (fun x => if x.canister = c ∧ x.ended = none then { x with ended := some e } else x),
           interrupted := r.interrupted || e.cause == .estop }

/-- Every run of the round has ended (R94). -/
def Round.over (r : Round) : Bool := r.runs.all (fun x => x.ended.isSome)

/-- A run end taken by the station: recorded against the round and the dose, passed on to the bank, and the round settled when its
last run has ended, unless the station is halted (R94, R105). -/
def State.stationRunEnd (s : State) (run : DoseRun) (cause : EndCause) : State :=
  let s1 := { s with station := { s.station with
    round := s.station.round.map (fun (r : Round) => Round.endRun r run.canister { pumped := run.pumped, cause := cause }) } }
  let s2 := s1.updateLive run.tag (fun j => j.mapDose run.code (fun d => { d with delivered := d.delivered + run.pumped }))
  let s3 := s2.bankRunEnd run.canister run.pumped run.topUp
  if s3.station.state = .dosing ∧ (s3.station.round.map Round.over).getD false ∧ s3.station.halted = false then
    s3.startSettle .round
  else s3

/-- A drive ends its run: it takes its new state and hands over the run end (R71, R72, R73, R76). -/
def State.endRun (s : State) (m : Manifold) (after : DriveState) (cause : EndCause) : State :=
  match (s.drive m).run? with
  | none => s
  | some run => (s.setDrive m { s.drive m with state := after }).stationRunEnd run cause

/-! ## Selection -/

/-- The stray tracking is cleared when the station leaves EMPTY (R85). -/
def State.leaveEmpty (s : State) : State := { s with weigh := { s.weigh with strayMs := none } }

/-- A draw starts (R87). -/
def State.startDraw (s : State) (j : Job) : State :=
  let s1 := s.leaveEmpty
  let s2 := { s1 with station := { s1.station with state := .drawing, job := some j.tag, transfer := some .draw } }
  (s2.jobDrawn j.tag).drawTin j.size

/-- An unpark starts (R89, R110). -/
def State.startUnpark (s : State) (j : Job) : State :=
  match s.rack.shelfHolding j.tag with
  | none => s
  | some i =>
    let s1 := s.leaveEmpty.setShelf i (.claimedUnpark j.tag)
    let s2 := { s1 with station := { s1.station with state := .unparking, job := some j.tag, transfer := some (.unpark i) } }
    s2.jobUnparked j.tag

/-- Whether the station may select: EMPTY with a valid tare, the line in RUN or QUIET, the halted flag clear (R84, R86). -/
def State.maySelect (s : State) : Bool :=
  s.station.state == .empty && s.weigh.tareValid && s.working && !s.station.halted

/-- The station selects its next job (R86, R113). -/
def State.select (s : State) : State :=
  if s.maySelect then
    match s.selection with
    | none => s
    | some (.draw j) => s.startDraw j
    | some (.unpark j) => s.startUnpark j
  else s

/-- A top-up due in WAIT_DRIVE: abandoned where the job's cancel is pending, the canister left READY or LOW or its manifold is
FAULTED; asked for again when the drive is IDLE (R99). -/
def State.topUpWait (s : State) (f : FirstRound) : State :=
  let d := s.drive (manifoldOf f.canister)
  if (s.stationJob.map (·.cancelPending)).getD false || !s.available f.canister then (s.abandonTopUp f).boundary
  else if d.state = .idle then s.requestTopUp f
  else s

/-- What the station does on a notice, by its state: it selects, makes its boundary decisions again, or asks again for a lane
place; nothing while its halted flag is set (R86, R92, R93, R99, R101, R105). -/
def State.stationTest (s : State) : State :=
  if s.station.halted then s
  else
    match s.station.state with
    | .empty => s.select
    | .waitDrive =>
      match s.station.firstRound with
      | none => s.boundary
      | some f => s.topUpWait f
    | .blocked => s.boundary
    | .held => s.askPlace
    | _ => s

end Sys2Proof.Machine
end

