-- ==== Sys2Proof/Machine/LineOps.lean ====
section
/-! DEFINITION. The shared operations of Line Mode Control: presence and the idle timer, a change of mode, the wake, what a halt left
being taken up, and the standing tests that end every step which may have given a block something to do. -/

namespace Sys2Proof.Machine

/-! ## Idleness -/

/-- The idle timer on a change of the presence flags: it starts when the line becomes idle in RUN or QUIET, and stops at 0 when the
line stops being idle (R156). -/
def IdleTimer.onPresence (t : IdleTimer) (working wasIdle nowIdle : Bool) : IdleTimer :=
  if wasIdle && !nowIdle then { elapsed := 0, running := false }
  else if !wasIdle && nowIdle && working then { elapsed := 0, running := true }
  else t

/-- The presence flags follow the blocks' notices, and the idle timer follows the flags (R155, R156). -/
def State.noticePresence (s : State) : State :=
  let p := s.presenceNow
  { s with line := { s.line with presence := p, idle := s.line.idle.onPresence s.working s.line.presence.idle p.idle } }

/-! ## Changes of mode -/

/-- The tare becomes invalid; an EMPTY station becomes TARE_WAIT (R84). -/
def State.tareInvalid (s : State) : State :=
  { s with weigh := { s.weigh with tareValid := false },
           station := if s.station.state = .empty then { s.station with state := .tareWait } else s.station }

/-- While the cell is unpowered its tracking stands cleared (R82). -/
def State.powerTest (s : State) : State :=
  if s.cellPowered then s else { s with weigh := { s.weigh with window := [], tracked := 0, strayMs := none } }

/-- What the station does on the line's entry into a mode: it invalidates its tare in STANDBY and SLEEP (R84). -/
def State.tareTest (s : State) : State :=
  if s.line.mode = .standby ∨ s.line.mode = .sleep then s.tareInvalid else s

/-- A change of the line mode, with its MODE record (R154). -/
def State.enterMode (s : State) (m : LineMode) : State :=
  let s1 := { s with line := { s.line with mode := m } }
  (s1.post .mode m.code 0 0).tareTest.powerTest

/-- The idle timer stops with elapsed 0 (R156). -/
def State.timerClear (s : State) : State := { s with line := { s.line with idle := { elapsed := 0, running := false } } }

/-- Entry into WAKING by any cause but LINE_RESUME (R156, R157). -/
def State.startWake (s : State) : State :=
  let s1 := s.timerClear.enterMode .waking
  { s1 with line := { s1.line with resumeWake := false } }

/-- Entry into SLEEP (R156, R158). -/
def State.startSleep (s : State) : State :=
  let s1 := s.timerClear.enterMode .sleep
  { s1 with line := { s1.line with resumeWake := false } }

/-- The expiry test of the idle timer: the line enters STANDBY and the timer stops with elapsed 0 (R156). -/
def State.expiryTest (s : State) : State :=
  if s.line.idle.running ∧ s.line.settings.idleTimeout ≤ s.line.idle.elapsed then s.timerClear.enterMode .standby else s

/-- A queued job wakes a line in STANDBY (R157). -/
def State.wakeTest (s : State) : State :=
  if s.line.mode = .standby ∧ s.line.presence.jobsQueued then s.startWake else s

/-! ## Taking up what a halt left -/

/-- The station clears its halted flag; a round whose runs have all ended is settled (R106). What else it takes up, the standing test
does. -/
def State.stationTakeUp (s : State) : State :=
  let s1 := { s with station := { s.station with halted := false } }
  if s1.station.state = .dosing ∧ (s1.station.round.map Round.over).getD false then s1.startSettle .round else s1

/-- A mixer clears its halted flag; a run restarts from 0 (R136). -/
def Mixer.takeUp (x : Mixer) : Mixer :=
  { x with halted := false,
           state := match x.state with
             | .running _ => .running 0
             | y => y }

/-- The mixers clear their halted flags (R136). -/
def State.mixersTakeUp (s : State) : State :=
  { s with mixers := { s.mixers with m0 := s.mixers.m0.takeUp, m1 := s.mixers.m1.takeUp } }

/-- The press clears its halted flag; a reseat whose second lid was not drawn draws it, or waits for one (R149). -/
def State.pressTakeUp (s : State) : State :=
  let s1 := { s with press := { s.press with halted := false } }
  match s1.press.state, s1.pressJob with
  | .reseating, some j =>
    if s1.press.lidInHead then s1
    else if 0 < s1.magazines.lids[j.size] then s1.drawLid j.size
    else s1.setPress (.waitLid .retry)
  | _, _ => s1

/-- The station, the mixers and the press take up what the halt left (R106, R136, R149, R161). -/
def State.takeUp (s : State) : State := s.stationTakeUp.mixersTakeUp.pressTakeUp

/-! ## The standing tests -/

/-- The tests that the blocks make on the notices of a step, each a function of the records as they stand: presence and the idle
timer (R155, R156), the wake on a queued job (R157), the stir tests (R68), the press (R141, R143), the mixers (R126, R132), the station
(R86, R92, R93, R99, R101), and presence again. Where no rule orders two of them the order is the model's (log 6). -/
def State.conclude (s : State) : State :=
  let s1 := s.noticePresence.wakeTest
  let s2 := (s1.stirTest .a).stirTest .b
  s2.pressTest.mixerTest.stationTest.noticePresence

end Sys2Proof.Machine
end

