-- ==== Sys2Proof/Machine/Link.lean ====
section
/-! DEFINITION. The Link Interface: the frame assembler, the receive buffer and the order of service, dispatch and replies (the shared
operations of every request), and the meanings of RECEIVE_BYTE, GAP_TIMER_EXPIRY, SERVE_LINK_ERR, UNKNOWN_KIND, IDENT and FETCH. -/

namespace Sys2Proof.Machine

/-! ## The receive buffer -/

/-- Whether a place in the order of service is a LINK_ERR reply (R177). -/
def Service.isLinkErr : Service → Bool
  | .linkErr _ => true
  | .request _ _ => false

/-- An overrun: the buffer is emptied, the replies owed are kept, one OVERRUN is owed, and the assembler hunts (R177). -/
def Link.overrun (l : Link) : Link :=
  let kept := l.service.filter (·.isLinkErr)
  { l with assembler := .hunt,
           service := if kept.contains (.linkErr .overrun) then kept else kept ++ [.linkErr .overrun] }

/-- A frame is discarded with a LINK_ERR reply owed at its place; with 32 owed already it is an overrun (R175, R176, R177). -/
def Link.discard (l : Link) (e : LinkErr) : Link :=
  if Config.linkErrsOwed ≤ l.owed then l.overrun
  else { l with assembler := .hunt, service := l.service ++ [.linkErr e] }

/-- A complete frame is checked: a request joins the waiting ones, a frame with a wrong check code is discarded (R175). -/
def Link.complete (l : Link) (len : Nat) (kind : Byte) (body : Body) (high low : Byte) : Link :=
  if frameCheck len kind body = high ++ low then
    { l with assembler := .hunt, service := l.service ++ [.request kind body] }
  else l.discard .badCheck

/-- What a received byte does in each state of the assembler (R174). -/
def Link.take (l : Link) (b : Byte) : Link :=
  match l.assembler with
  | .hunt => if b = 0xA5 then { l with assembler := .length } else l
  | .length => if 1 ≤ b.toNat ∧ b.toNat ≤ 250 then { l with assembler := .kind b.toNat } else { l with assembler := .hunt }
  | .kind len => { l with assembler := if len = 1 then .check len b [] none else .body len b [] }
  | .body len kind body =>
    let body1 := body ++ [b]
    { l with assembler := if body1.length = len - 1 then .check len kind body1 none else .body len kind body1 }
  | .check len kind body none => { l with assembler := .check len kind body (some b) }
  | .check len kind body (some high) => l.complete len kind body high b

/-- A byte received with a valid stop bit: an overrun where the buffer already holds 512 bytes (R177), otherwise taken by the
assembler (R174). -/
def Link.receive (l : Link) (b : Byte) : Link := if Config.bufferBytes ≤ l.buffered then l.overrun else l.take b

/-- RECEIVE_BYTE: a byte without a valid stop bit does not reach the assembler (R173). -/
def execReceiveByte (b : Byte) (stopOk : Bool) (s : State) : Host.Outcome State Fault Refusal :=
  .next (if stopOk then { s with link := s.link.receive b } else s)

/-- GAP_TIMER_EXPIRY: an open frame is discarded and TRUNCATED is owed (R176). -/
def execGapTimerExpiry (s : State) : Host.Outcome State Fault Refusal :=
  .next (if s.link.assembler = .hunt then s else { s with link := s.link.discard .truncated })

/-- SERVE_LINK_ERR: the LINK_ERR at the head of the order of service is sent (R177, R178, R179). -/
def execServeLinkErr (s : State) : Host.Outcome State Fault Refusal :=
  match s.link.service with
  | .linkErr e :: rest =>
    .next { s with link := { s.link with
      service := rest
      reply := some { kind := 0xFF, code := e.code, count := s.link.actionCount, fields := [] } } }
  | _ => .next s

/-! ## Serving a request -/

/-- What an owner decides for a request: the result, the reply fields, and the state (R177, R179). -/
structure Answer where
  result : Result
  fields : List Byte
  state : State

/-- A refusal: nothing changes (R178). -/
def State.refuse (s : State) (r : Result) : Answer := { result := r, fields := [], state := s }

/-- A refusal that carries the field index and the line index (R179). -/
def State.refuseField (s : State) (r : Result) (field line : Nat) : Answer :=
  { result := r, fields := enc1 field ++ enc1 line, state := s }

/-- The action count after a counted request: from 63 it passes to 1 (R180). -/
def countUp (n : Nat) : Nat := if 63 ≤ n then 1 else n + 1

/-- The action count after a request of a kind with a result (R180). -/
def countAfter (k : RequestKind) (r : Result) (n : Nat) : Nat := if r.accepted && !k.uncounted then countUp n else n

/-- The count is updated and the reply sent (R177, R178, R179, R180). -/
def Answer.send (a : Answer) (k : RequestKind) : State :=
  let n := countAfter k a.result a.state.link.actionCount
  { a.state with link := { a.state.link with
      actionCount := n
      reply := some { kind := k.code + 0x80, code := a.result.code, count := n, fields := a.fields } } }

/-- Whether a request may be served now: it stands at the head of the order of service, or nothing waits (log 3). -/
def Link.serves (l : Link) (kind : Byte) (body : Body) : Bool :=
  match l.service with
  | [] => true
  | .request k b :: _ => k == kind && b == body
  | .linkErr _ :: _ => false

/-- A request leaves the receive buffer as its service begins (R177). -/
def State.beginService (s : State) : State := { s with link := { s.link with service := s.link.service.tail } }

/-- A request that must wait joins the order of service; one that does not fit the buffer overruns it (R177, log 3). -/
def State.waitService (s : State) (kind : Byte) (body : Body) : State :=
  { s with link :=
      if Config.bufferBytes < s.link.buffered + (body.length + 5) then s.link.overrun
      else { s.link with service := s.link.service ++ [.request kind body] } }

/-- Serving a request: its owner takes it whole, the count is updated, the reply is sent (R177); or it waits its turn. -/
def State.serve (s : State) (k : RequestKind) (body : Body) (owner : State → Answer) : State :=
  if s.link.serves k.code body then (owner s.beginService).send k else s.waitService k.code body

/-- The reply kind of an UNKNOWN_KIND answer (R178). -/
def unknownReplyKind (kind : Byte) : Byte := if kind.toNat < 0x80 then kind + 0x80 else kind

/-- UNKNOWN_KIND: a checked request of an unlisted kind is answered UNKNOWN_KIND, uncounted (R178). A listed kind is no such request
and changes nothing (log 5). -/
def execUnknownKind (kind : Byte) (body : Body) (s : State) : Host.Outcome State Fault Refusal :=
  .next (
    if requestKindCodes.contains kind then s
    else if s.link.serves kind body then
      let s1 := s.beginService
      { s1 with link := { s1.link with
          reply := some { kind := unknownReplyKind kind, code := Result.unknownKind.code, count := s1.link.actionCount,
                          fields := [] } } }
    else s.waitService kind body)

/-- IDENT's owner (R181). -/
def State.identRequest (body : Body) (s : State) : Answer :=
  match body with
  | [] =>
    { result := .ok
      fields := enc2 Config.partCode ++ enc1 Config.revision ++ enc1 Config.jobSlots ++ enc1 16 ++ enc1 4
        ++ enc1 Config.reportSlots
      state := s }
  | _ => s.refuse .badLength

/-- IDENT (R181). -/
def execIdent (body : Body) (s : State) : Host.Outcome State Fault Refusal :=
  .next (s.serve .ident body (State.identRequest body))

/-! ## FETCH -/

/-- FETCH's owner: up to 8 of the oldest records leave the queue, and the overflow count is read and cleared (R170). -/
def State.fetchRequest (body : Body) (s : State) : Answer :=
  match body with
  | [b] =>
    let n := clampTo 1 8 b.toNat
    let taken := s.reports.queue.take n
    let rest := s.reports.queue.drop n
    { result := okOrClamped (outside 1 8 b.toNat)
      fields := enc1 taken.length ++ enc1 s.reports.overflow ++ enc1 rest.length ++ taken.flatMap (·.record.bytes)
      state := s.withReports { queue := rest, overflow := 0 } }
  | _ => s.refuse .badLength

/-- FETCH (R170). -/
def execFetch (body : Body) (s : State) : Host.Outcome State Fault Refusal :=
  .next (s.serve .fetch body (State.fetchRequest body))

end Sys2Proof.Machine
end

