-- ==== Sys2Proof/Machine/Bank.lean ====
section
/-! DEFINITION. The Colourant Bank's requests (CANISTER_SET, CANISTER_STATE, REFILL, CANISTER_QUERY) and the float events. -/

namespace Sys2Proof.Machine

/-- The canister index field (R52). -/
def canisterOf (b : Byte) : Option CanisterId := if h : b.toNat < 16 then some ⟨b.toNat, h⟩ else none

/-- The first field of a canister request: an index above 15 is refused BAD_FIELD 1 (R52). -/
def State.withCanister (s : State) (b : Byte) (f : CanisterId → Answer) : Answer :=
  match canisterOf b with
  | none => s.refuseField .badField 1 0
  | some c => f c

/-! ## CANISTER_SET -/

/-- Defining a canister (R58). -/
def State.setCanisterFields (s : State) (c : CanisterId) (code density usable lowMark : Nat) : Answer :=
  let k := s.canister c
  if 250 < code then s.refuseField .badField 2 0
  else if k.state ≠ .offline ∨ 0 < k.reserved then s.refuse .wrongState
  else
    let d := clampTo 800 2500 density
    let u := min Config.canisterSteps usable
    let l := min Config.canisterSteps lowMark
    { result := okOrClamped (outside 800 2500 density || Config.canisterSteps < usable || Config.canisterSteps < lowMark)
      fields := enc1 code ++ enc2 d ++ enc4 u ++ enc4 l
      state := s.setCanister c { k with code := code, density := d, usable := u, lowMark := l, missCount := 0 } }

/-- CANISTER_SET's owner (R58). -/
def State.canisterSetRequest (body : Body) (s : State) : Answer :=
  match body with
  | [i, code, d1, d0, u3, u2, u1, u0, l3, l2, l1, l0] =>
    s.withCanister i (fun c =>
      s.setCanisterFields c code.toNat (beNat [d1, d0]) (beNat [u3, u2, u1, u0]) (beNat [l3, l2, l1, l0]))
  | _ => s.refuse .badLength

/-- CANISTER_SET (R58). -/
def execCanisterSet (body : Body) (s : State) : Host.Outcome State Fault Refusal :=
  .next (s.serve .canisterSet body (State.canisterSetRequest body))

/-! ## CANISTER_STATE -/

/-- An answer to CANISTER_STATE: it carries the state and cause codes of the canister as they stand after the request, before the
standing tests that the change gives rise to (R52). -/
def State.answerState (s : State) (c : CanisterId) (r : Result) (changed : Bool) : Answer :=
  { result := r, fields := enc1 (s.canister c).state.code ++ enc1 (s.canister c).state.causeCode,
    state := if changed then s.conclude else s }

/-- Action OFFLINE (R53). -/
def State.canisterOffline (s : State) (c : CanisterId) : Answer :=
  let k := s.canister c
  if k.state = .offline then s.answerState c .ok false
  else if k.offlinePending then s.answerState c .deferred false
  else if s.running c then (s.setCanister c { k with offlinePending := true }).answerState c .deferred true
  else (s.setCanister c { k with state := .offline }).answerState c .ok true

/-- Action ONLINE (R55). -/
def State.canisterOnline (s : State) (c : CanisterId) : Answer :=
  let k := s.canister c
  if k.state ≠ .offline ∨ k.offlinePending ∨ k.code = 0 then s.answerState c .wrongState false
  else if k.missCount = 3 then (s.setCanister c { k with state := .check }).answerState c .ok true
  else (s.examine c).answerState c .ok true

/-- Action CLEAR_CHECK (R56). -/
def State.canisterClearCheck (s : State) (c : CanisterId) : Answer :=
  let k := s.canister c
  if k.state ≠ .check then s.answerState c .wrongState false
  else ((s.setCanister c { k with missCount := 0 }).examine c).answerState c .ok true

/-- CANISTER_STATE's owner: the index, then the action (R52). -/
def State.canisterStateRequest (body : Body) (s : State) : Answer :=
  match body with
  | [i, action] =>
    s.withCanister i (fun c =>
      if action = 1 then s.canisterOffline c
      else if action = 2 then s.canisterOnline c
      else if action = 3 then s.canisterClearCheck c
      else s.refuseField .badField 2 0)
  | _ => s.refuse .badLength

/-- CANISTER_STATE_OFFLINE (R52, R53). -/
def execCanisterStateOffline (body : Body) (s : State) : Host.Outcome State Fault Refusal :=
  .next (s.serve .canisterState body (State.canisterStateRequest body))

/-- CANISTER_STATE_ONLINE (R52, R55). -/
def execCanisterStateOnline (body : Body) (s : State) : Host.Outcome State Fault Refusal :=
  .next (s.serve .canisterState body (State.canisterStateRequest body))

/-- CANISTER_STATE_CLEAR_CHECK (R52, R56). -/
def execCanisterStateClearCheck (body : Body) (s : State) : Host.Outcome State Fault Refusal :=
  .next (s.serve .canisterState body (State.canisterStateRequest body))

/-! ## REFILL and CANISTER_QUERY -/

/-- The reply fields of REFILL (R57). -/
def Canister.refillFields (k : Canister) : List Byte := enc1 k.state.code ++ enc1 k.state.causeCode ++ enc4 k.usable

/-- Refilling a canister (R57). -/
def State.refillCanister (s : State) (c : CanisterId) (amount : Nat) : Answer :=
  let k := s.canister c
  if amount = 0 ∨ Config.canisterSteps < amount then s.refuseField .badField 2 0
  else
    match k.state with
    | .ready | .low | .check => { result := .wrongState, fields := k.refillFields, state := s }
    | .offline | .short _ =>
      let k1 := { k with usable := min Config.canisterSteps (k.usable + amount) }.retest
      { result := okOrClamped (Config.canisterSteps < k.usable + amount), fields := k1.refillFields,
        state := (s.setCanister c k1).conclude }

/-- REFILL's owner (R57). -/
def State.refillRequest (body : Body) (s : State) : Answer :=
  match body with
  | [i, a3, a2, a1, a0] => s.withCanister i (fun c => s.refillCanister c (beNat [a3, a2, a1, a0]))
  | _ => s.refuse .badLength

/-- REFILL (R57). -/
def execRefill (body : Body) (s : State) : Host.Outcome State Fault Refusal :=
  .next (s.serve .refill body (State.refillRequest body))

/-- The bytes of a CANISTER_QUERY reply (R59). -/
def State.canisterFields (s : State) (c : CanisterId) : List Byte :=
  let k := s.canister c
  enc1 c.val ++ enc1 (manifoldIndex (manifoldOf c)) ++ enc1 k.code ++ enc2 k.density ++ enc4 k.usable ++ enc4 k.reserved
    ++ enc4 k.lowMark ++ enc4 (s.free c) ++ enc1 k.state.code ++ enc1 k.state.causeCode ++ encFlag k.tripped
    ++ enc1 k.missCount ++ encFlag k.offlinePending ++ encFlag (s.running c) ++ encFlag (s.available c)
    ++ encFlag (s.dispensable c)

/-- CANISTER_QUERY's owner (R59). -/
def State.canisterQueryRequest (body : Body) (s : State) : Answer :=
  match body with
  | [i] => s.withCanister i (fun c => { result := .ok, fields := s.canisterFields c, state := s })
  | _ => s.refuse .badLength

/-- CANISTER_QUERY (R59). -/
def execCanisterQuery (body : Body) (s : State) : Host.Outcome State Fault Refusal :=
  .next (s.serve .canisterQuery body (State.canisterQueryRequest body))

/-! ## Float events -/

/-- A float trip: in service, usable becomes 0, the canister goes SHORT, CANISTER_SHORT is posted and a run on it is halted (R49, R72);
otherwise the float is recorded and a SHORT canister tested (R50). -/
def State.floatTrip (s : State) (c : CanisterId) : State :=
  let k := s.canister c
  if k.inService then
    let s1 := s.setCanister c { k with tripped := true, usable := 0, state := .short .float }
    let s2 := s1.post .canisterShort ShortCause.float.code c.val 0
    if s.running c then s2.endRun (manifoldOf c) .idle .float else s2
  else s.setCanister c { k with tripped := true }.retest

/-- FLOAT_TRIP (R49, R50, R72). -/
def execFloatTrip (c : CanisterId) (s : State) : Host.Outcome State Fault Refusal := .next (s.floatTrip c).conclude

/-- FLOAT_CLEAR (R50, R51). -/
def execFloatClear (c : CanisterId) (s : State) : Host.Outcome State Fault Refusal :=
  .next (s.setCanister c { s.canister c with tripped := false }.retest).conclude

end Sys2Proof.Machine
end

