-- ==== Sys2Proof/Machine/Drives.lean ====
section
/-! DEFINITION. The Manifold Drives' events and CLEAR_FAULT naming a manifold. -/

namespace Sys2Proof.Machine

/-- MANIFOLD_STALE: the staleness test (R66). -/
def execManifoldStale (m : Manifold) (s : State) : Host.Outcome State Fault Refusal := .next (s.staleTest m)

/-- STIR_START: the stir test (R67, R68). -/
def execStirStart (m : Manifold) (s : State) : Host.Outcome State Fault Refusal := .next (s.stirTest m)

/-- The completion of a stir whose elapsed has reached its duration: the drive becomes IDLE, the clock 0, the stale flag clear
(R69). -/
def State.completeStir (s : State) (m : Manifold) : State :=
  let d := s.drive m
  match d.state with
  | .stirring elapsed duration =>
    if duration ≤ elapsed then (s.setDrive m { d with state := .idle, stirClock := 0, stale := false }).conclude else s
  | _ => s

/-- STIR_COMPLETE (R69). -/
def execStirComplete (m : Manifold) (s : State) : Host.Outcome State Fault Refusal := .next (s.completeStir m)

/-- A step reported by the pump; the run completes when the pumped count reaches the steps asked (R71). -/
def State.pump (s : State) (m : Manifold) : State :=
  match (s.drive m).run? with
  | none => s
  | some run =>
    let run1 := { run with pumped := run.pumped + 1 }
    let s1 := s.setDrive m { s.drive m with state := .dosing run1 }
    if run1.asked ≤ run1.pumped then (s1.endRun m .idle .complete).conclude else s1

/-- PUMP_STEP (R71). -/
def execPumpStep (m : Manifold) (s : State) : Host.Outcome State Fault Refusal := .next (s.pump m)

/-- The MANIFOLD_FAULT record (R73). -/
def State.postManifoldFault (s : State) (m : Manifold) (d : FaultDetail) : State :=
  s.post .manifoldFault d.code (manifoldIndex m) 0

/-- A stall: a drive in motion stops and is FAULTED; at rest it is ignored (R73). -/
def State.stall (s : State) (m : Manifold) : State :=
  let d := s.drive m
  match d.state with
  | .dosing _ => ((s.endRun m (.faulted .dose) .stall).postManifoldFault m .dose).conclude
  | .stirring _ _ => ((s.setDrive m { d with state := .faulted .stir }).postManifoldFault m .stir).conclude
  | .idle | .faulted _ => s

/-- STALL (R73). -/
def execStall (m : Manifold) (s : State) : Host.Outcome State Fault Refusal := .next (s.stall m)

/-- Clearing a drive's fault (R75). -/
def State.clearDrive (s : State) (m : Manifold) : Answer :=
  let d := s.drive m
  match d.state with
  | .faulted _ => { result := .ok, fields := [], state := (s.setDrive m { d with state := .idle }).conclude }
  | _ => s.refuse .wrongState

/-- Clearing a mixer's fault: the mixer is taken as empty (R134). -/
def State.clearMixer (s : State) (k : MixerId) : Answer :=
  let x := s.mixer k
  if x.state = .fault then
    { result := .ok, fields := [], state := (s.setMixer k { x with state := .idle, tag := none }).conclude }
  else s.refuse .wrongState

/-- Clearing the press's fault (R147). -/
def State.clearPress (s : State) : Answer :=
  if s.press.state = .fault then
    { result := .ok, fields := [],
      state := State.conclude { s with press := { s.press with state := .idle, failures := 0 } } }
  else s.refuse .wrongState

/-- CLEAR_FAULT's owner, by its target (R75, R134, R147). -/
def State.clearFaultRequest (body : Body) (s : State) : Answer :=
  match body with
  | [target] =>
    if target = 1 then s.clearDrive .a
    else if target = 2 then s.clearDrive .b
    else if target = 3 then s.clearMixer .m0
    else if target = 4 then s.clearMixer .m1
    else if target = 5 then s.clearPress
    else s.refuseField .badField 1 0
  | _ => s.refuse .badLength

/-- CLEAR_FAULT_MANIFOLD (R75). -/
def execClearFaultManifold (body : Body) (s : State) : Host.Outcome State Fault Refusal :=
  .next (s.serve .clearFault body (State.clearFaultRequest body))

/-- CLEAR_FAULT_MIXER (R134). -/
def execClearFaultMixer (body : Body) (s : State) : Host.Outcome State Fault Refusal :=
  .next (s.serve .clearFault body (State.clearFaultRequest body))

/-- CLEAR_FAULT_PRESS (R147). -/
def execClearFaultPress (body : Body) (s : State) : Host.Outcome State Fault Refusal :=
  .next (s.serve .clearFault body (State.clearFaultRequest body))

end Sys2Proof.Machine
end

