-- ==== Sys2Proof/Machine/Lidding.lean ====
section
/-! DEFINITION. The Lid Press's events and Magazine Counts' requests. An event that finds no operation to end, or a halted press,
changes nothing (R142, R144, R148, log 7). -/

namespace Sys2Proof.Machine

/-- Whether the press is in a state with its operation going on (R148). -/
def State.pressAt (s : State) (x : PressState) : Bool := s.press.state == x && !s.press.halted

/-- FEED_END: the lid-present report at the end of the feed (R142). -/
def execFeedEnd (lidPresent : Bool) (s : State) : Host.Outcome State Fault Refusal :=
  .next (
    if s.pressAt (.seating .feed) then
      if lidPresent then s.setPress (.seating .seat)
      else
        match s.pressJob with
        | none => s
        | some j => (s.lidMissing j.size .first).conclude
    else s)

/-- RESEAT_LID_PRESENT: the lid-present report during a reseat (R145). -/
def execReseatLidPresent (lidPresent : Bool) (s : State) : Host.Outcome State Fault Refusal :=
  .next (
    if s.pressAt .reseating && !lidPresent then
      match s.pressJob with
      | none => s
      | some j => (s.lidMissing j.size .retry).conclude
    else s)

/-- The force check at the end of a seat or reseat (R144). -/
def State.forceCheck (s : State) (j : Job) (force : Force) : State :=
  let attempts := j.lidAttempts + 1
  let s1 := { s with press := { s.press with lidInHead := false } }.updateLive j.tag (fun k => { k with lidAttempts := attempts })
  match force with
  | .pass => { s1 with press := { s1.press with state := .ejecting .outfeed, failures := 0 } }
  | .fail =>
    if attempts < 2 then
      if 0 < s1.magazines.lids[j.size] then s1.startReseat j.size else s1.setPress (.waitLid .retry)
    else { s1 with press := { s1.press with state := .ejecting .reject, failures := s1.press.failures + 1 } }

/-- SEAT_END (R144). -/
def execSeatEnd (force : Force) (s : State) : Host.Outcome State Fault Refusal :=
  .next (
    if s.pressAt (.seating .seat) || s.pressAt .reseating then
      match s.pressJob with
      | none => s
      | some j => (s.forceCheck j force).conclude
    else s)

/-- The job leaves the press: DONE at the outfeed, FAILED at the reject chute (R10, R146). -/
def State.ejectJob (s : State) (t : Tag) (d : Destination) : State :=
  match d with
  | .outfeed => s.finishJob t .done
  | .reject => s.finishJob t (.failed .lidFault)

/-- The end of an ejection: the job finishes, the press is empty, and two rejects in a row put it in FAULT (R146). -/
def State.endEjection (s : State) (d : Destination) : State :=
  match s.press.tag with
  | none => s
  | some t =>
    let s1 := s.ejectJob t d
    if s1.press.failures = 2 then
      { s1 with press := { s1.press with tag := none, state := .fault } }.post .pressFault 0 0 0
    else { s1 with press := { s1.press with tag := none, state := .idle } }

/-- EJECTION_END (R146). -/
def execEjectionEnd (s : State) : Host.Outcome State Fault Refusal :=
  .next (
    match s.press.state with
    | .ejecting d => if s.press.halted then s else (s.endEjection d).conclude
    | _ => s)

/-! ## STOCK_LOAD and STOCK_SET -/

/-- A magazine (R152). -/
inductive Item where
  | tins
  | lids
  deriving DecidableEq, Repr

/-- The item field (R152). -/
def itemOf (b : Byte) : Option Item := if b = 1 then some .tins else if b = 2 then some .lids else none

/-- The size code field (R152). -/
def sizeOf? (b : Byte) : Option Size := if h : b.toNat < 5 then some ⟨b.toNat, h⟩ else none

/-- The capacity of a magazine (R151). -/
def Item.capacity (i : Item) (z : Size) : Nat :=
  match i with
  | .tins => Config.tinCapacity z
  | .lids => Config.lidCapacity z

/-- A magazine's count (R151). -/
def State.stock (s : State) (i : Item) (z : Size) : Nat :=
  match i with
  | .tins => s.magazines.tins[z]
  | .lids => s.magazines.lids[z]

/-- The host states a magazine's count: no STOCK_OUT is posted (R151, R152). -/
def State.setStock (s : State) (i : Item) (z : Size) (n : Nat) : State :=
  match i with
  | .tins => { s with magazines := { s.magazines with tins := s.magazines.tins.set z.val n z.isLt } }
  | .lids => { s with magazines := { s.magazines with lids := s.magazines.lids.set z.val n z.isLt } }

/-- A count taken from the host, clamped at the magazine's capacity (R152). -/
def State.storeStock (s : State) (item size : Byte) (i : Item) (z : Size) (n : Nat) : Answer :=
  let stored := min (i.capacity z) n
  { result := okOrClamped (i.capacity z < n), fields := [item, size] ++ enc1 stored,
    state := (s.setStock i z stored).conclude }

/-- The item and size fields, checked in that order (R152). -/
def State.withStock (s : State) (item size : Byte) (f : Item → Size → Answer) : Answer :=
  match itemOf item with
  | none => s.refuseField .badField 1 0
  | some i =>
    match sizeOf? size with
    | none => s.refuseField .badField 2 0
    | some z => f i z

/-- STOCK_LOAD's owner: a count of 0 is refused, otherwise it is added (R152). -/
def State.stockLoadRequest (body : Body) (s : State) : Answer :=
  match body with
  | [item, size, count] =>
    s.withStock item size (fun i z =>
      if count = 0 then s.refuseField .badField 3 0 else s.storeStock item size i z (s.stock i z + count.toNat))
  | _ => s.refuse .badLength

/-- STOCK_LOAD (R152). -/
def execStockLoad (body : Body) (s : State) : Host.Outcome State Fault Refusal :=
  .next (s.serve .stockLoad body (State.stockLoadRequest body))

/-- STOCK_SET's owner: the count replaces the named count (R152). -/
def State.stockSetRequest (body : Body) (s : State) : Answer :=
  match body with
  | [item, size, count] => s.withStock item size (fun i z => s.storeStock item size i z count.toNat)
  | _ => s.refuse .badLength

/-- STOCK_SET (R152). -/
def execStockSet (body : Body) (s : State) : Host.Outcome State Fault Refusal :=
  .next (s.serve .stockSet body (State.stockSetRequest body))

end Sys2Proof.Machine
end

