-- ==== Sys2Proof/Machine/LineModes.lean ====
section
/-! DEFINITION. Line Mode Control: power-on and soft reset, the line clock, the settings, the modes, the idle timer's expiry, the wake,
the emergency stop and the resume, and LINE_QUERY. -/

namespace Sys2Proof.Machine

/-! ## Power-on -/

/-- A drive after POR, before the start-up stir (R80). -/
def Drive.atPowerOn (estop : Bool) : Drive := { state := .idle, stirClock := top32, stale := true, halted := estop }

/-- Every block at its POR values, with the present state of the E-STOP input and of the floats, before the start-up stirs; the queue of
commands is the model's and is kept (R24, R63, R80, R108, R123, R138, R150, R151, R165, R172, R182). -/
def State.powerOnValues (estop : Bool) (floats : BitVec 16) (pending : List Instr) : State :=
  { orders := { jobs := [], admissionCounter := 0, finishCounter := 0 }
    bank := Vector.ofFn (fun i => Canister.atPowerOn (floats.getLsbD i.val))
    drives := { a := Drive.atPowerOn estop, b := Drive.atPowerOn estop }
    station :=
      { state := .tareWait, job := none, readingBefore := none, round := none, firstRound := none, transfer := none,
        halted := estop }
    weigh := { zero := 0, tareValid := false, latest := 0, window := [], tracked := 0, strayMs := none }
    rack := { shelves := Vector.replicate 4 .free, parkCounter := 0 }
    mixers := { lane := [], heldPlace := false, m0 := Mixer.atReset estop, m1 := Mixer.atReset estop, holdOrder := [] }
    press :=
      { lane := [], heldPlaces := 0, state := .idle, tag := none, lidInHead := false, failures := 0, halted := estop }
    magazines := { tins := Vector.replicate 5 0, lids := Vector.replicate 5 0 }
    reports := { queue := [], overflow := 0 }
    line :=
      { mode := if estop then .halted else .standby, working := .run, saved := if estop then some .standby else none,
        estop := estop, idle := { elapsed := 0, running := false },
        presence := { jobsQueued := false, tinAtStation := false, tinInMix := false, tinInLid := false },
        settings := Settings.atPowerOn, clock := 0, resumeWake := false }
    link := { assembler := .hunt, service := [], actionCount := 0, attn := false, reply := none }
    pending := pending }

/-- Both stir tests (R68). -/
def State.stirTests (s : State) : State := (s.stirTest .a).stirTest .b

/-- POWER_ON_RESET: the POR values and the start-up stirs (R80, R165). -/
def execPowerOnReset (estop : Bool) (floats : BitVec 16) (s : State) : Host.Outcome State Fault Refusal :=
  .next (State.powerOnValues estop floats s.pending).stirTests

/-! ## The line clock -/

/-- A drive's second: the stir clock rises and stays at its top; the stir elapsed rises (R64, R65). -/
def Drive.tick (d : Drive) : Drive :=
  { d with
    stirClock := min top32 (d.stirClock + 1)
    state := match d.state with
      | .stirring e n => .stirring (e + 1) n
      | x => x }

/-- A mixer's second: the run elapsed rises, unless the run is abandoned by a halt (R129, R135). -/
def Mixer.tick (x : Mixer) : Mixer :=
  match x.state with
  | .running e => if x.halted then x else { x with state := .running (e + 1) }
  | _ => x

/-- The idle timer's second (R156). -/
def IdleTimer.tick (t : IdleTimer) : IdleTimer := if t.running then { t with elapsed := t.elapsed + 1 } else t

/-- The counts that rise with each second of the line clock (R65, R129, R156, R163). -/
def State.countSecond (s : State) : State :=
  { s with
    drives := { a := s.drives.a.tick, b := s.drives.b.tick }
    mixers := { s.mixers with m0 := s.mixers.m0.tick, m1 := s.mixers.m1.tick }
    line := { s.line with clock := s.line.clock + 1, idle := s.line.idle.tick } }

/-- The tests made each time the clock rises and at each accepted LINE_SET: staleness, idle expiry, stirs (R66, R68, R78, R156). DESIGN
CHOICE, unsafe: their order (log 9), and the expiry test of a LINE_SET that leaves the timeout at its figure (log 40). -/
def State.clockTests (s : State) : State := ((s.staleTest .a).staleTest .b).expiryTest.stirTests

/-- LINE_CLOCK_TICK (R65, R66, R156, R163). -/
def execLineClockTick (s : State) : Host.Outcome State Fault Refusal := .next s.countSecond.clockTests

/-- IDLE_TIMER_EXPIRY: the expiry test, and the stir tests that a change of mode gives rise to (R156, R68). -/
def execIdleTimerExpiry (s : State) : Host.Outcome State Fault Refusal := .next s.expiryTest.stirTests

/-! ## LINE_SET -/

/-- Writing every line setting (R159). -/
def State.setSettings (s : State) (t : Settings) : State := { s with line := { s.line with settings := t } }

/-- LINE_SET's owner (R159). DESIGN CHOICE, unsafe (log 40): the expiry test is made at every LINE_SET of the right length, also where the
timeout is left at its present figure; R156 makes it each time LINE_SET changes the timeout. -/
def State.lineSetRequest (body : Body) (s : State) : Answer :=
  match body with
  | [i, d1, d0, h, p, t1, t0, l0, l1, l2, l3, n] =>
    let v := settingsOf i.toNat (beNat [d1, d0]) h.toNat p.toNat (beNat [t1, t0]) l0.toNat l1.toNat l2.toNat l3.toNat n.toNat
    { result := okOrClamped (settingsClamped i.toNat (beNat [d1, d0]) h.toNat p.toNat (beNat [t1, t0]) l0.toNat l1.toNat
        l2.toNat l3.toNat n.toNat)
      fields := v.bytes
      state := (s.setSettings v).clockTests }
  | _ => s.refuse .badLength

/-- LINE_SET (R159). -/
def execLineSet (body : Body) (s : State) : Host.Outcome State Fault Refusal :=
  .next (s.serve .lineSet body (State.lineSetRequest body))

/-! ## LINE_MODE -/

/-- The line mode and the working mode, as replies carry them (R158, R161). -/
def State.modeFields (s : State) : List Byte := enc1 s.line.mode.code ++ enc1 s.line.working.line.code

/-- An answer to LINE_MODE (R158). -/
def State.answerMode (s : State) (r : Result) (changed : Bool) : Answer :=
  { result := r, fields := s.modeFields, state := if changed then s.conclude else s }

/-- A request for RUN or QUIET (R157, R158). -/
def State.requestWork (s : State) (w : WorkMode) : Answer :=
  let s1 := { s with line := { s.line with working := w } }
  match s.line.mode with
  | .halted => s.answerMode .wrongState false
  | .standby | .sleep => s1.startWake.answerMode .ok true
  | .waking => s1.answerMode .ok false
  | .run | .quiet => if s.line.mode = w.line then s1.answerMode .ok false else (s1.enterMode w.line).answerMode .ok true

/-- A request for SLEEP (R158). -/
def State.requestSleep (s : State) : Answer :=
  match s.line.mode with
  | .halted => s.answerMode .wrongState false
  | .sleep => s.answerMode .ok false
  | .run | .quiet | .standby | .waking =>
    if s.line.presence.idle then s.startSleep.answerMode .ok true else s.answerMode .declined false

/-- LINE_MODE's owner, by the mode requested (R158). -/
def State.lineModeRequest (body : Body) (s : State) : Answer :=
  match body with
  | [mode] =>
    if mode = 1 then s.requestWork .run
    else if mode = 2 then s.requestWork .quiet
    else if mode = 4 then s.requestSleep
    else s.refuseField .badField 1 0
  | _ => s.refuse .badLength

/-- LINE_MODE_RUN (R158). -/
def execLineModeRun (body : Body) (s : State) : Host.Outcome State Fault Refusal :=
  .next (s.serve .lineMode body (State.lineModeRequest body))

/-- LINE_MODE_QUIET (R158). -/
def execLineModeQuiet (body : Body) (s : State) : Host.Outcome State Fault Refusal :=
  .next (s.serve .lineMode body (State.lineModeRequest body))

/-- LINE_MODE_SLEEP (R158). -/
def execLineModeSleep (body : Body) (s : State) : Host.Outcome State Fault Refusal :=
  .next (s.serve .lineMode body (State.lineModeRequest body))

/-! ## The end of the wake -/

/-- The idle timer at the end of a wake: it runs on from what a halt kept where LINE_RESUME began the wake, from 0 otherwise, if the line
is idle (R156). -/
def LineControl.timerAtWake (l : LineControl) : IdleTimer :=
  if l.presence.idle then { elapsed := if l.resumeWake then l.idle.elapsed else 0, running := true }
  else { elapsed := 0, running := false }

/-- The end of the wake: the line enters its working mode and the blocks take up what a halt left (R106, R136, R149, R157, R161). -/
def State.endWake (s : State) : State :=
  let s1 := { s with line := { s.line with idle := s.line.timerAtWake, resumeWake := false } }
  (s1.enterMode s.line.working.line).takeUp

/-- WAKE_END (R157). -/
def execWakeEnd (s : State) : Host.Outcome State Fault Refusal :=
  .next (if s.line.mode = .waking then s.endWake.conclude else s)

/-! ## The emergency stop -/

/-- The mode saved at an assertion (R160). -/
def LineControl.savedAtHalt (l : LineControl) : Option LineMode :=
  match l.mode with
  | .halted => l.saved
  | .waking => some l.working.line
  | m => some m

/-- A drive at the assertion: its run ends with cause ESTOP, its stir is abandoned, its halted flag is set (R76). DEDUCED, unsafe (log 39):
the run end adds the steps pumped to the dose in the job's record at the assertion (R94, R105), though R12 says that an assertion changes no
job record. -/
def State.haltDrive (s : State) (m : Manifold) : State :=
  let s1 := s.endRun m .idle .estop
  let d := s1.drive m
  s1.setDrive m
    { d with halted := true,
             state := match d.state with
               | .stirring _ _ => .idle
               | x => x }

/-- A mixer at the assertion: the run elapsed is discarded and the halted flag set (R135). DESIGN CHOICE, safe (log 38): a RUNNING mixer
holds run elapsed 0 during the halt; R135 says only that it is discarded, and R136 gives 0 at the resume. -/
def Mixer.halt (x : Mixer) : Mixer :=
  { x with halted := true,
           state := match x.state with
             | .running _ => .running 0
             | y => y }

/-- A top-up due in WAIT_DRIVE is abandoned at the assertion (R99, R105). DEDUCED, unsafe (log 39): its top-up steps and the verdicts are
written into the job's record then, though R12 says that an assertion changes no job record. -/
def State.haltTopUp (s : State) : State :=
  match s.station.state, s.station.firstRound with
  | .waitDrive, some f => s.abandonTopUp f
  | _, _ => s

/-- The line's own part of an assertion: the input, the mode, the saved mode, the idle timer stopped with its elapsed kept (R156,
R160). -/
def LineControl.halt (l : LineControl) : LineControl :=
  { l with estop := true, mode := .halted, saved := l.savedAtHalt, idle := { l.idle with running := false },
           resumeWake := false }

/-- The blocks at the assertion: the station's flag first, so that a round ended by it is not settled; the drives; the top-up due; the
mixers; the press (R76, R105, R135, R148). -/
def State.haltBlocks (s : State) : State :=
  let s1 := { s with station := { s.station with halted := true } }
  let s2 := ((s1.haltDrive .a).haltDrive .b).haltTopUp
  { s2 with mixers := { s2.mixers with m0 := s2.mixers.m0.halt, m1 := s2.mixers.m1.halt },
            press := { s2.press with halted := true } }

/-- An assertion of E-STOP (R160). -/
def State.assertEstop (s : State) : State :=
  let s1 := State.haltBlocks { s with line := s.line.halt }
  let s2 := s1.post .estop 1 0 0
  if s.line.mode = .halted then s2 else s2.post .mode LineMode.halted.code 0 0

/-- ESTOP_ASSERTION (R160). -/
def execEstopAssertion (s : State) : Host.Outcome State Fault Refusal := .next s.assertEstop

/-- ESTOP_RELEASE: the input alone (R160). -/
def execEstopRelease (s : State) : Host.Outcome State Fault Refusal := .next { s with line := { s.line with estop := false } }

/-! ## LINE_RESUME -/

/-- The mode entered by a resume: STANDBY or SLEEP at once where that was saved and the line is idle, a wake otherwise (R161). -/
def LineControl.resumeMode (l : LineControl) : LineMode :=
  match l.saved with
  | some .sleep => if l.presence.idle then .sleep else .waking
  | some .run | some .quiet => .waking
  | _ => if l.presence.idle then .standby else .waking

/-- The drives clear their halted flags (R77). -/
def State.unhaltDrives (s : State) : State :=
  { s with drives := { a := { s.drives.a with halted := false }, b := { s.drives.b with halted := false } } }

/-- An accepted resume (R161). -/
def State.resume (s : State) : State :=
  let m : LineMode := s.line.resumeMode
  let s1 := (s.unhaltDrives.post .estop 2 0 0)
  let s2 := { s1 with line := { s1.line with saved := none, resumeWake := m == LineMode.waking } }
  let s3 := (if m = LineMode.waking then s2 else s2.timerClear).enterMode m
  if m = LineMode.waking then s3 else s3.takeUp

/-- LINE_RESUME's owner (R161). -/
def State.lineResumeRequest (body : Body) (s : State) : Answer :=
  match body with
  | [] =>
    if s.line.mode ≠ .halted then s.refuse .wrongState
    else if s.line.estop then s.refuse .estopActive
    else { result := .ok, fields := s.resume.modeFields, state := s.resume.conclude }
  | _ => s.refuse .badLength

/-- LINE_RESUME (R161). -/
def execLineResume (body : Body) (s : State) : Host.Outcome State Fault Refusal :=
  .next (s.serve .lineResume body (State.lineResumeRequest body))

/-! ## RESET -/

/-- A canister after RESET (R63). -/
def Canister.softReset (k : Canister) : Canister := { k with reserved := 0, offlinePending := false }.retest

/-- A drive after RESET: its state, clock, stale flag and fault are kept (R80). No run is in progress, for no tin is in the machine. -/
def Drive.softReset (d : Drive) (estop : Bool) : Drive :=
  { d with halted := estop,
           state := match d.state with
             | .dosing _ => .idle
             | x => x }

/-- Every canister after RESET. -/
def State.resetBank (s : State) : State :=
  (List.finRange 16).foldl (fun (k : State) c => k.setCanister c (k.canister c).softReset) s

/-- Every block at its values after RESET (R24, R63, R80, R108, R123, R138, R150, R151, R162, R165, R172, R182). -/
def State.softReset (s : State) : State :=
  let e := s.line.estop
  let s1 := s.resetBank
  { s1 with
    orders := { jobs := [], admissionCounter := 0, finishCounter := 0 }
    drives := { a := s.drives.a.softReset e, b := s.drives.b.softReset e }
    station :=
      { state := .tareWait, job := none, readingBefore := none, round := none, firstRound := none, transfer := none,
        halted := e }
    weigh := { s.weigh with tareValid := false, window := [], tracked := 0, strayMs := none }
    rack := { shelves := Vector.replicate 4 .free, parkCounter := 0 }
    mixers := { lane := [], heldPlace := false, m0 := Mixer.atReset e, m1 := Mixer.atReset e, holdOrder := [] }
    press := { lane := [], heldPlaces := 0, state := .idle, tag := none, lidInHead := false, failures := 0, halted := e }
    reports := { queue := [], overflow := 0 }
    line :=
      { s.line with
        mode := if e then .halted else .standby, working := .run, saved := if e then some .standby else none,
        idle := { elapsed := 0, running := false },
        presence := { jobsQueued := false, tinAtStation := false, tinInMix := false, tinInLid := false },
        resumeWake := false }
    link := { s.link with assembler := .hunt, service := [], actionCount := 0, attn := false } }

/-- Whether RESET is refused OCCUPIED (R162). -/
def State.occupied (s : State) : Bool :=
  s.line.presence.tinAtStation || s.line.presence.tinInMix || s.line.presence.tinInLid || s.mixers.m0.state == .fault
    || s.mixers.m1.state == .fault

/-- RESET's owner (R162); the drives make the stir test in the mode the line is now in (R68, R80). -/
def State.resetRequest (body : Body) (s : State) : Answer :=
  match body with
  | [] => if s.occupied then s.refuse .occupied else { result := .ok, fields := [], state := s.softReset.stirTests }
  | _ => s.refuse .badLength

/-- RESET (R162). -/
def execReset (body : Body) (s : State) : Host.Outcome State Fault Refusal :=
  .next (s.serve .reset body (State.resetRequest body))

/-! ## LINE_QUERY -/

/-- The number of jobs in a state, by the state's code (R164). -/
def State.jobsIn (s : State) (code : Nat) : Nat := (s.orders.jobs.filter (fun j => j.state.code = code)).length

/-- A lane as three tags, head first, 0 for an empty place (R137, R150). -/
def laneBytes (lane : List Tag) : List Byte := enc2 (lane.getD 0 0) ++ enc2 (lane.getD 1 0) ++ enc2 (lane.getD 2 0)

/-- A mixer in a LINE_QUERY reply (R137). -/
def Mixer.bytes (x : Mixer) : List Byte := enc1 x.state.code ++ encTag x.tag ++ enc4 x.cycleCount

/-- A drive in a LINE_QUERY reply (R79). -/
def Drive.bytes (d : Drive) : List Byte :=
  enc1 d.state.code ++ enc4 d.stirClock ++ encFlag d.stale ++ enc1 d.state.faultCode

/-- The modes, the E-STOP input, the idle timer and the clock in a LINE_QUERY reply (R164). -/
def State.modeBytes (s : State) : List Byte :=
  s.modeFields ++ enc1 ((s.line.saved.map LineMode.code).getD 0) ++ encFlag s.line.estop ++ enc2 s.line.idle.elapsed
    ++ enc4 s.line.clock.toNat

/-- The number of jobs in each of the ten states, in the order of their codes (R4, R164). -/
def State.jobCountBytes (s : State) : List Byte := [1, 2, 3, 4, 5, 6, 7, 8, 9, 10].flatMap (fun c => enc1 (s.jobsIn c))

/-- The station in a LINE_QUERY reply (R107). -/
def Station.bytes (x : Station) : List Byte := enc1 x.state.code ++ encTag x.job

/-- The rack in a LINE_QUERY reply (R122). -/
def Rack.bytes (r : Rack) : List Byte := r.shelves.toList.flatMap (fun x => enc1 x.code ++ encTag x.tag) ++ enc1 r.inUse

/-- The mix lane and the mixers in a LINE_QUERY reply (R137). -/
def MixerPool.bytes (p : MixerPool) : List Byte := laneBytes p.lane ++ encFlag p.heldPlace ++ p.m0.bytes ++ p.m1.bytes

/-- The lid lane and the press in a LINE_QUERY reply (R150). -/
def LidPress.bytes (p : LidPress) : List Byte :=
  laneBytes p.lane ++ enc1 p.heldPlaces ++ enc1 p.state.code ++ encTag p.tag ++ enc1 p.state.lidDueCode ++ enc1 p.failures

/-- The ten magazine counts in a LINE_QUERY reply (R164). -/
def Magazines.bytes (m : Magazines) : List Byte := m.tins.toList.flatMap enc1 ++ m.lids.toList.flatMap enc1

/-- The bytes of a LINE_QUERY reply, in the order of R164. -/
def State.lineFields (s : State) : List Byte :=
  s.modeBytes ++ s.line.settings.bytes ++ s.jobCountBytes ++ s.station.bytes ++ s.rack.bytes ++ s.mixers.bytes ++ s.press.bytes
    ++ s.drives.a.bytes ++ s.drives.b.bytes ++ s.magazines.bytes ++ enc1 s.reports.queue.length ++ enc1 s.reports.overflow

/-- LINE_QUERY's owner (R164). -/
def State.lineQueryRequest (body : Body) (s : State) : Answer :=
  match body with
  | [] => { result := .ok, fields := s.lineFields, state := s }
  | _ => s.refuse .badLength

/-- LINE_QUERY (R164). -/
def execLineQuery (body : Body) (s : State) : Host.Outcome State Fault Refusal :=
  .next (s.serve .lineQuery body (State.lineQueryRequest body))

end Sys2Proof.Machine
end

