-- ==== Sys2Proof/Machine/Mixing.lean ====
section
/-! DEFINITION. The Mixer Pool's events. An event that finds no operation to end, or a halted mixer, changes nothing (log 7). -/

namespace Sys2Proof.Machine

/-- Changes the job in a mixer. -/
def State.updateMixerJob (s : State) (k : MixerId) (f : Job → Job) : State :=
  match (s.mixer k).tag with
  | none => s
  | some t => s.updateLive t f

/-- The end of a load or of a reclamp: the mixer runs from 0 and the job's mix attempts rise by 1 (R127, R129). -/
def State.startMixRun (s : State) (k : MixerId) : State :=
  (s.setMixer k { s.mixer k with state := .running 0 }).updateMixerJob k (fun j => { j with mixAttempts := j.mixAttempts + 1 })

/-- LOAD_END (R127). -/
def execLoadEnd (k : MixerId) (s : State) : Host.Outcome State Fault Refusal :=
  .next (if (s.mixer k).state = .loading ∧ (s.mixer k).halted = false then s.startMixRun k else s)

/-- RECLAMP_END (R129). -/
def execReclampEnd (k : MixerId) (s : State) : Host.Outcome State Fault Refusal :=
  .next (if (s.mixer k).state = .reclamp ∧ (s.mixer k).halted = false then s.startMixRun k else s)

/-- A run whose elapsed has reached the mix time completes (R129, R131). -/
def State.mixRunComplete (s : State) (k : MixerId) : State :=
  match (s.mixer k).state, (s.mixer k).mixTime, s.mixerJob k with
  | .running elapsed, some time, some j =>
    if time ≤ elapsed ∧ (s.mixer k).halted = false then (s.endMixRun k j).conclude else s
  | _, _, _ => s

/-- MIX_RUN_COMPLETE (R129, R131). -/
def execMixRunComplete (k : MixerId) (s : State) : Host.Outcome State Fault Refusal := .next (s.mixRunComplete k)

/-- A second imbalance: FAULT with the tag kept, the job FAILED, MIXER_FAULT posted (R130). -/
def State.faultMixer (s : State) (k : MixerId) (j : Job) : State :=
  let s1 := s.setMixer k { s.mixer k with state := .fault, mixTime := none }
  (s1.finishJob j.tag (.failed .mixFault)).post .mixerFault 0 (mixerIndex k) 0

/-- An imbalance in RUNNING stops the run: RECLAMP at the first attempt, FAULT at the second (R129). -/
def State.imbalance (s : State) (k : MixerId) : State :=
  match (s.mixer k).state, s.mixerJob k with
  | .running _, some j =>
    if (s.mixer k).halted then s
    else if j.mixAttempts < 2 then s.setMixer k { s.mixer k with state := .reclamp }
    else (s.faultMixer k j).conclude
  | _, _ => s

/-- IMBALANCE (R129, R130). -/
def execImbalance (k : MixerId) (s : State) : Host.Outcome State Fault Refusal := .next (s.imbalance k)

/-- The tin reaches the lid lane or the outfeed (R131). -/
def State.handOver (s : State) (k : MixerId) : State :=
  match (s.mixer k).tag with
  | none => s
  | some t =>
    if (s.mixer k).lidLanePlace then
      State.jobMixed { s with press := { s.press with lane := s.press.lane ++ [t],
                                                      heldPlaces := s.press.heldPlaces - 1 } } t
    else s.finishJob t .done

/-- The mixer after an unload: IDLE, empty, its cycle count raised (R125, R131). -/
def Mixer.emptied (x : Mixer) : Mixer :=
  { x with state := .idle, tag := none, mixTime := none, lidLanePlace := false, cycleCount := min top32 (x.cycleCount + 1) }

/-- The end of an unload (R131). -/
def State.endUnload (s : State) (k : MixerId) : State :=
  let s1 := s.handOver k
  s1.setMixer k (s1.mixer k).emptied

/-- UNLOAD_END (R131). -/
def execUnloadEnd (k : MixerId) (s : State) : Host.Outcome State Fault Refusal :=
  .next (if (s.mixer k).state = .unloading ∧ (s.mixer k).halted = false then (s.endUnload k).conclude else s)

end Sys2Proof.Machine
end

