-- ==== Sys2Proof/Machine/DoseCalculator.lean ====
section
/-! DEFINITION. The Dose Calculator's stages 1 to 5: merging, scaling, the load limit, the choice of canisters, the commit. -/

namespace Sys2Proof.Machine

/-- A merged line: its colourant code, its amount, and the index of the formula line that opened it (R26). -/
structure MergedLine where
  code : Nat
  amount : Nat
  line : Nat
  deriving DecidableEq, Repr

/-- One formula line taken into the merged list (R26). -/
def mergeLine (ms : List MergedLine) (line code amount : Nat) : List MergedLine :=
  if ms.any (fun m => m.code == code) then
    ms.map (fun m => if m.code = code then { m with amount := m.amount + amount } else m)
  else ms ++ [{ code := code, amount := amount, line := line }]

/-- Stage 1: the lines are taken in the order sent, numbered from the first (R26). -/
def mergeLines (ms : List MergedLine) (line : Nat) : List (Nat × Nat) → List MergedLine
  | [] => ms
  | (code, amount) :: rest => mergeLines (mergeLine ms line code amount) (line + 1) rest

/-- Stage 2: the steps of a merged line, to the nearest whole step with a half going up (R27). -/
def stepsOf (amount volume strength : Nat) : Nat := (amount * volume * strength + 250000) / 500000

/-- The load limit in steps (R29). -/
def limitSteps (volume limit : Nat) : Nat := volume * limit / 5

/-- Steps set aside on a canister for earlier doses of the same ORDER (R30). -/
def setAside (earlier : List Dose) (c : CanisterId) : Nat := ((earlier.filter (fun d => d.canister = c)).map (·.steps)).sum

/-- The free steps of a canister for the choice (R30). -/
def State.freeFor (s : State) (earlier : List Dose) (c : CanisterId) : Nat := s.free c - setAside earlier c

/-- A canister is a candidate for a dose (R30). -/
def State.candidate (s : State) (earlier : List Dose) (code steps : Nat) (c : CanisterId) : Bool :=
  (s.canister c).code == code && (s.canister c).inService && !(s.drive (manifoldOf c)).isFaulted
    && steps ≤ s.freeFor earlier c

/-- The better of two candidates: the larger free steps, the earlier where they are equal (R31). -/
def State.better (s : State) (earlier : List Dose) (best : Option CanisterId) (c : CanisterId) : Option CanisterId :=
  match best with
  | none => some c
  | some b => if s.freeFor earlier b < s.freeFor earlier c then some c else some b

/-- Stage 4 for one dose: the candidate with the largest free steps, the lowest index where they are equal (R31). -/
def State.chooseCanister (s : State) (earlier : List Dose) (code steps : Nat) : Option CanisterId :=
  ((List.finRange 16).filter (s.candidate earlier code steps)).foldl (s.better earlier) none

/-- Whether any canister of any state carries a code (R32). -/
def State.carried (s : State) (code : Nat) : Bool := (List.finRange 16).any (fun c => (s.canister c).code == code)

/-- What the calculator returns (R25). -/
inductive Calculation where
  | overload (total limit : Nat)
  | noColourant (line : Nat)
  | insufficient (line : Nat)
  | admitted (doses : List Dose) (dropped : Nat)
  deriving DecidableEq, Repr

/-- Stage 4 for the doses in merged order; the first without a candidate decides the refusal (R30, R31, R32). -/
def State.assign (s : State) (dropped : Nat) (earlier : List Dose) : List (MergedLine × Nat) → Calculation
  | [] => .admitted earlier dropped
  | (m, steps) :: rest =>
    match s.chooseCanister earlier m.code steps with
    | some c =>
      s.assign dropped
        (earlier ++ [{ code := m.code, merged := m.amount, canister := c, steps := steps, delivered := 0, topUp := 0,
                       verdict := .none }]) rest
    | none => if s.carried m.code then .insufficient m.line else .noColourant m.line

/-- The calculation for an ORDER that passed the table checks (R17, R25 to R32). -/
def State.calculate (s : State) (o : OrderBody) (size : Size) (base : Base) : Calculation :=
  let merged := mergeLines [] 1 o.lines
  let scaled := merged.map (fun m => (m, stepsOf m.amount (Config.volume size) o.strength))
  let kept := scaled.filter (fun x => x.2 ≠ 0)
  let total := (kept.map (·.2)).sum
  let limit := s.line.settings.loadLimits[base]
  if total * 5 ≤ Config.volume size * limit then s.assign (merged.length - kept.length) [] kept
  else .overload total (limitSteps (Config.volume size) limit)

end Sys2Proof.Machine
end

