-- ==== Sys2Proof/Machine/Orders.lean ====
section
/-! DEFINITION. The Order Table's requests: ORDER, CANCEL, JOB_QUERY, RELEASE. -/

namespace Sys2Proof.Machine

/-! ## ORDER -/

/-- The finish number of a finished record. -/
def Job.finishNumber (j : Job) : Nat := (j.finish.map (·.number)).getD 0

/-- The table is full: 32 unfinished jobs, or no further admission number (R16). -/
def State.tableFull (s : State) : Bool :=
  Config.jobSlots ≤ (s.orders.jobs.filter (fun j => !j.finished)).length || top32 ≤ s.orders.admissionCounter

/-- Making a slot free: a record of the same tag is discarded, then, where no slot is free, the finished record with the lowest
finish number (R18). -/
def makeRoom (jobs : List Job) (t : Tag) : List Job :=
  let others := jobs.filter (fun j => j.tag ≠ t)
  if others.length < Config.jobSlots then others
  else
    match lowestBy Job.finishNumber (others.filter (·.finished)) with
    | some old => others.filter (fun j => j.tag ≠ old.tag)
    | none => others

/-- The job record at admission (R2). -/
def OrderBody.job (o : OrderBody) (size : Size) (base : Base) (doses : List Dose) (dropped admission : Nat) (now : Clock) :
    Job :=
  { tag := o.tag, cls := if o.rush then .rush else .normal, size := size, base := base, strength := o.strength,
    notify := o.notify, lidSkip := o.lidSkip, mixOverride := o.mixOverride, doses := doses, dropped := dropped,
    state := .queued, cancelPending := false, verdict := .inTol, admission := admission, admitted := now, finish := none,
    mixerUsed := none, mixAttempts := 0, lidAttempts := 0 }

/-- The commit and the admission of a job (R18, R33). -/
def State.admitJob (s : State) (o : OrderBody) (size : Size) (base : Base) (doses : List Dose) (dropped : Nat) : State :=
  let s1 := doses.foldl State.reserveDose s
  let n := s.orders.admissionCounter + 1
  { s1 with orders := { s1.orders with
      admissionCounter := n
      jobs := makeRoom s1.orders.jobs o.tag ++ [o.job size base doses dropped n s.line.clock] } }

/-- The reply fields of an admitted ORDER (R18). -/
def admitFields (doses : List Dose) (dropped : Nat) : List Byte :=
  doses.flatMap (fun d => enc1 d.code ++ enc1 d.canister.val ++ enc4 d.steps) ++ enc1 dropped
    ++ enc4 ((doses.map (·.steps)).sum)

/-- ORDER's owner: the length test, then the fixed series of checks (R13 to R18). -/
def State.orderRequest (body : Body) (s : State) : Answer :=
  match parseOrder body with
  | none => s.refuse .badLength
  | some o =>
    if s.line.mode = .sleep then s.refuse .asleep
    else
      match o.fieldError with
      | some (field, line) => s.refuseField .badField field line
      | none =>
        if (s.liveJob o.tag).isSome then s.refuse .dupTag
        else if s.tableFull then s.refuse .tableFull
        else
          let size : Size := Fin.ofNat 5 o.size
          let base : Base := Fin.ofNat 4 o.base
          match s.calculate o size base with
          | .overload total limit => { result := .overload, fields := enc4 total ++ enc4 limit, state := s }
          | .noColourant line => s.refuseField .noColourant 0 line
          | .insufficient line => s.refuseField .insufficient 0 line
          | .admitted doses dropped =>
            { result := okOrClamped o.mixClamped, fields := admitFields doses dropped,
              state := (s.admitJob o size base doses dropped).conclude }

/-- ORDER (R13 to R18). -/
def execOrder (body : Body) (s : State) : Host.Outcome State Fault Refusal :=
  .next (s.serve .order body (State.orderRequest body))

/-! ## CANCEL, RELEASE, JOB_QUERY -/

/-- The tag field common to CANCEL, RELEASE and JOB_QUERY: a wrong length, a tag of 0 and a tag no record carries are refused. -/
def State.withJob (s : State) (body : Body) (f : Job → Answer) : Answer :=
  match body with
  | [h, l] =>
    let t := beNat [h, l]
    if t = 0 then s.refuseField .badField 1 0
    else
      match s.findJob t with
      | none => s.refuse .noJob
      | some j => f j
  | _ => s.refuse .badLength

/-- A deferred cancel sets the cancel pending flag (R20). -/
def State.setCancelPending (s : State) (t : Tag) : State := s.updateLive t (fun j => { j with cancelPending := true })

/-- CANCEL of a job, by its state (R19, R20, R21). -/
def State.cancelJob (s : State) (j : Job) : Answer :=
  match j.state with
  | .queued => { result := .ok, fields := [], state := (s.finishJob j.tag .cancelled).conclude }
  | .dosing | .parked _ _ =>
    { result := .deferred, fields := [],
      state := if j.cancelPending then s else (s.setCancelPending j.tag).conclude }
  | .dosed | .mixing | .mixed | .lidding => s.refuse .tooLate
  | .done | .failed _ | .cancelled => s.refuse .wrongState

/-- CANCEL (R19, R20, R21). -/
def execCancel (body : Body) (s : State) : Host.Outcome State Fault Refusal :=
  .next (s.serve .cancel body (fun s => s.withJob body s.cancelJob))

/-- RELEASE of a job (R22). -/
def State.releaseJob (s : State) (j : Job) : Answer :=
  if j.finished then
    { result := .ok, fields := [],
      state := { s with orders := { s.orders with jobs := s.orders.jobs.filter (fun k => k.tag ≠ j.tag) } } }
  else s.refuse .wrongState

/-- RELEASE (R22). -/
def execRelease (body : Body) (s : State) : Host.Outcome State Fault Refusal :=
  .next (s.serve .release body (fun s => s.withJob body s.releaseJob))

/-- The bytes of a dose entry in a JOB_QUERY reply (R23). -/
def Dose.bytes (d : Dose) : List Byte :=
  enc1 d.code ++ enc4 d.merged ++ enc1 d.canister.val ++ enc4 d.steps ++ enc4 d.delivered ++ enc4 d.topUp
    ++ enc1 d.verdict.code

/-- The park reason code of a job state, 0 when absent (R23). -/
def JobState.parkCode : JobState → Nat
  | .parked r _ => r.code
  | _ => 0

/-- The fail reason code of a job state, 0 when absent (R23). -/
def JobState.failCode : JobState → Nat
  | .failed r => r.code
  | _ => 0

/-- What the order gave a job, in a JOB_QUERY reply (R23). The class byte is a free value (log 13). -/
def Job.orderBytes (j : Job) : List Byte :=
  enc2 j.tag ++ [Config.classCode j.cls] ++ enc1 j.size.val ++ enc1 j.base.val ++ enc1 j.strength ++ encFlag j.notify
    ++ encFlag j.lidSkip ++ enc2 (j.mixOverride.getD 0)

/-- How far a job has come, in a JOB_QUERY reply (R23). -/
def Job.progressBytes (j : Job) : List Byte :=
  enc1 j.state.code ++ enc1 j.state.parkCode ++ enc4 j.parkNumber ++ encFlag j.cancelPending ++ enc1 j.verdict.code
    ++ enc1 j.state.failCode

/-- The numbers and times of a job's admission and end, in a JOB_QUERY reply (R23). -/
def Job.numberBytes (j : Job) : List Byte :=
  enc4 j.admission ++ enc4 j.admitted.toNat ++ enc4 j.finishNumber ++ enc4 ((j.finish.map (·.time.toNat)).getD 0)

/-- The mixer, the attempts and the doses of a job, in a JOB_QUERY reply (R23). -/
def Job.workBytes (j : Job) : List Byte :=
  enc1 ((j.mixerUsed.map mixerIndex).getD 0xFF) ++ enc1 j.mixAttempts ++ enc1 j.lidAttempts ++ enc1 j.dropped
    ++ enc1 j.doses.length ++ j.doses.flatMap Dose.bytes

/-- The bytes of a job record in a JOB_QUERY reply (R23). -/
def Job.bytes (j : Job) : List Byte := j.orderBytes ++ j.progressBytes ++ j.numberBytes ++ j.workBytes

/-- JOB_QUERY (R23). -/
def execJobQuery (body : Body) (s : State) : Host.Outcome State Fault Refusal :=
  .next (s.serve .jobQuery body (fun s => s.withJob body (fun j => { result := .ok, fields := j.bytes, state := s })))

end Sys2Proof.Machine
end

