-- ==== Sys2Proof/Machine/Station.lean ====
section
/-! DEFINITION. The Dosing Station's events: weigh-cell readings, the stray load, selection, and the ends of its transfers and
settles. An event that finds no operation to end, or a halted station, changes nothing (log 7). -/

namespace Sys2Proof.Machine

/-! ## The weigh cell -/

/-- A reading taken into the stability tracking (R82). -/
def WeighCell.track (w : WeighCell) (count : Int) (ms : Nat) : WeighCell :=
  { w with
    latest := count
    window := (0, count) :: (w.window.map (fun x => (x.1 + ms, x.2))).filter (fun x => x.1 ≤ Config.stableMs)
    tracked := min Config.stableMs (w.tracked + ms) }

/-- A reading taken into the stray tracking: the time since the first of the readings that all stood 50 g above the zero (R85). -/
def WeighCell.trackStray (w : WeighCell) (count : Int) (ms : Nat) : WeighCell :=
  { w with strayMs :=
      if Config.nearZeroCounts ≤ count - w.zero then
        match w.strayMs with
        | none => some 0
        | some t => some (min Config.strayMs (t + ms))
      else none }

/-- The station states in which an auto-tare is taken (R83). -/
def StationState.tares : StationState → Bool
  | .empty | .tareWait | .stray => true
  | _ => false

/-- The station states in which a stray load is watched for (R85). -/
def StationState.watches : StationState → Bool
  | .empty | .tareWait => true
  | _ => false

/-- An auto-tare where the platform is stable and near zero (R83). -/
def State.autoTare (s : State) : State :=
  if s.station.state.tares && s.cellPowered && s.weigh.stable && s.weigh.nearZero then
    { s with weigh := { s.weigh with zero := s.weigh.latest, tareValid := true, window := [], tracked := 0, strayMs := none },
             station := { s.station with state := .empty } }
  else s

/-- The stray load test (R85). -/
def State.strayTest (s : State) : State :=
  if s.station.state.watches && s.cellPowered && s.weigh.strayMs == some Config.strayMs then
    { s with weigh := { s.weigh with tareValid := false, strayMs := none },
             station := { s.station with state := .stray } }.post
      .strayLoad 0 0 ((s.weigh.latest - s.weigh.zero) * 10).toNat
  else s

/-- A reading reaches the records: the latest, the tracking, and the stray tracking where it is watched for (R82, R85). -/
def State.takeReading (s : State) (count : Int) (ms : Nat) : State :=
  let w := s.weigh.track count ms
  { s with weigh := if s.station.state.watches then w.trackStray count ms else { w with strayMs := none } }

/-- WEIGH_READING: none arrives while the cell is unpowered (R82, R83, R85). -/
def execWeighReading (count : Int) (ms : Nat) (s : State) : Host.Outcome State Fault Refusal :=
  .next (if s.cellPowered then ((s.takeReading count ms).autoTare.strayTest).conclude else s)

/-- STRAY_LOAD: the stray load test (R85). -/
def execStrayLoad (s : State) : Host.Outcome State Fault Refusal := .next s.strayTest

/-- STATION_SELECT: the selection, where the station may select (R86, R113). -/
def execStationSelect (s : State) : Host.Outcome State Fault Refusal := .next s.select.noticePresence

/-! ## Ends of transfers -/

/-- Whether the station is in a state with its operation going on (R105). -/
def State.stationAt (s : State) (x : StationState) : Bool := s.station.state == x && !s.station.halted

/-- DRAW_END: the station becomes WEIGHING and makes a settle (R87). -/
def execDrawEnd (s : State) : Host.Outcome State Fault Refusal :=
  .next (if s.stationAt .drawing then s.startSettle .draw else s)

/-- Whether the job at the station has its cancel pending. -/
def State.stationCancelled (s : State) : Bool := (s.stationJob.map (·.cancelPending)).getD false

/-- The end of an unpark: the shelf becomes FREE, then the tin is rejected or settled (R89, R110). -/
def State.endUnpark (s : State) : State :=
  match s.station.transfer with
  | some (.unpark i) =>
    let s1 := s.freeShelfAt i
    if s.stationCancelled then s1.startReject else s1.startSettle .unpark
  | _ => s

/-- UNPARK_END (R89). -/
def execUnparkEnd (s : State) : Host.Outcome State Fault Refusal :=
  .next (if s.stationAt .unparking then s.endUnpark.conclude else s)

/-- The park counter about to pass its top: the parked jobs are numbered 1, 2, ... in the order of their present numbers (R111). -/
def renumber (jobs : List Job) : List Job :=
  let rank (n : Nat) := (jobs.filter (fun j => j.isParked && j.parkNumber ≤ n)).length
  jobs.map (fun j =>
    match j.state with
    | .parked r n => { j with state := .parked r (rank n) }
    | _ => j)

/-- The rack renumbered where the next park number would pass the top (R111). -/
def State.renumberRack (s : State) : State :=
  if top32 ≤ s.rack.parkCounter then
    { s with orders := { s.orders with jobs := renumber s.orders.jobs },
             rack := { s.rack with parkCounter := (s.orders.jobs.filter (·.isParked)).length } }
  else s

/-- The tin is left on the shelf: the shelf holds the job, which becomes PARKED with the next park number; JOB_PARKED is posted and
the station becomes EMPTY (R103, R110, R111). -/
def State.leaveOnShelf (s : State) (t : Tag) (i : ShelfId) (reason : ParkReason) : State :=
  let s1 := s.renumberRack
  let n := s1.rack.parkCounter + 1
  let s2 := s1.setShelf i (.holding t)
  let s3 := { s2 with rack := { s2.rack with parkCounter := n } }
  ((s3.jobParked t reason n).post .jobParked reason.code t 0).stationEmpty

/-- The end of a park (R103). -/
def State.endPark (s : State) : State :=
  match s.station.transfer, s.station.job with
  | some (.park i reason), some t =>
    if s.stationCancelled then (s.freeShelfAt i).startReject else s.leaveOnShelf t i reason
  | _, _ => s

/-- PARK_END (R103, R110, R111). -/
def execParkEnd (s : State) : Host.Outcome State Fault Refusal :=
  .next (if s.stationAt .parking then s.endPark.conclude else s)

/-- The end of a discharge: the tag joins the lane's tail, the held place is cleared, and the station becomes EMPTY (R102, R124). -/
def State.endDischarge (s : State) : State :=
  match s.station.job with
  | none => s
  | some t =>
    State.stationEmpty { s with mixers := { s.mixers with lane := s.mixers.lane ++ [t], heldPlace := false } }

/-- DISCHARGE_END (R102). -/
def execDischargeEnd (s : State) : Host.Outcome State Fault Refusal :=
  .next (if s.stationAt .discharging then s.endDischarge.conclude else s)

/-- The end of a reject: the job becomes CANCELLED and is finished, and the station becomes EMPTY (R104). -/
def State.endReject (s : State) : State :=
  match s.station.job with
  | none => s
  | some t => (s.finishJob t .cancelled).stationEmpty

/-- REJECT_END (R104). -/
def execRejectEnd (s : State) : Host.Outcome State Fault Refusal :=
  .next (if s.stationAt .rejecting then s.endReject.conclude else s)

/-! ## The end of a settle -/

/-- A tin has arrived: the latest reading is at least 100 g above the zero (R87). -/
def WeighCell.tinArrived (w : WeighCell) : Bool := Config.tinCounts ≤ w.latest - w.zero

/-- The latest reading becomes the reading before, and the boundary decisions are made (R88, R89). -/
def State.firstBoundary (s : State) : State :=
  State.boundary { s with station := { s.station with readingBefore := some s.weigh.latest } }

/-- The settle after a draw (R88). -/
def State.settleDraw (s : State) : State :=
  match s.stationJob with
  | none => s
  | some j =>
    if s.weigh.tinArrived then
      if j.cancelPending then s.startReject
      else if j.doses.isEmpty then s.becomeDosed j.tag
      else s.firstBoundary
    else ((s.tinsTo j.size 0).jobUndrawn j.tag).stationEmpty

/-- SETTLE_END: the tin-present test, a reading before, or the verification of a round (R88, R89, R96). -/
def execSettleEnd (s : State) : Host.Outcome State Fault Refusal :=
  .next (
    if s.station.halted then s
    else
      match s.station.state with
      | .weighing .draw => s.settleDraw.conclude
      | .weighing .unpark => s.firstBoundary.conclude
      | .weighing .round => s.judge.conclude
      | _ => s)

end Sys2Proof.Machine
end

