-- ==== Sys2Proof/Machine/Dispatch.lean ====
section
/-! DEFINITION. One arm for each command of the table. -/

namespace Sys2Proof.Machine

def exec (i : Instr) (s : State) : Host.Outcome State Fault Refusal :=
  match i with
  | .powerOnReset estop floats => Sys2Proof.Machine.execPowerOnReset estop floats s
  | .lineClockTick => Sys2Proof.Machine.execLineClockTick s
  | .receiveByte b stopOk => Sys2Proof.Machine.execReceiveByte b stopOk s
  | .gapTimerExpiry => Sys2Proof.Machine.execGapTimerExpiry s
  | .serveLinkErr => Sys2Proof.Machine.execServeLinkErr s
  | .unknownKind kind body => Sys2Proof.Machine.execUnknownKind kind body s
  | .ident body => Sys2Proof.Machine.execIdent body s
  | .order body => Sys2Proof.Machine.execOrder body s
  | .cancel body => Sys2Proof.Machine.execCancel body s
  | .jobQuery body => Sys2Proof.Machine.execJobQuery body s
  | .release body => Sys2Proof.Machine.execRelease body s
  | .canisterSet body => Sys2Proof.Machine.execCanisterSet body s
  | .canisterStateOffline body => Sys2Proof.Machine.execCanisterStateOffline body s
  | .canisterStateOnline body => Sys2Proof.Machine.execCanisterStateOnline body s
  | .canisterStateClearCheck body => Sys2Proof.Machine.execCanisterStateClearCheck body s
  | .refill body => Sys2Proof.Machine.execRefill body s
  | .canisterQuery body => Sys2Proof.Machine.execCanisterQuery body s
  | .stockLoad body => Sys2Proof.Machine.execStockLoad body s
  | .stockSet body => Sys2Proof.Machine.execStockSet body s
  | .lineSet body => Sys2Proof.Machine.execLineSet body s
  | .lineModeRun body => Sys2Proof.Machine.execLineModeRun body s
  | .lineModeQuiet body => Sys2Proof.Machine.execLineModeQuiet body s
  | .lineModeSleep body => Sys2Proof.Machine.execLineModeSleep body s
  | .lineResume body => Sys2Proof.Machine.execLineResume body s
  | .clearFaultManifold body => Sys2Proof.Machine.execClearFaultManifold body s
  | .clearFaultMixer body => Sys2Proof.Machine.execClearFaultMixer body s
  | .clearFaultPress body => Sys2Proof.Machine.execClearFaultPress body s
  | .lineQuery body => Sys2Proof.Machine.execLineQuery body s
  | .fetch body => Sys2Proof.Machine.execFetch body s
  | .reset body => Sys2Proof.Machine.execReset body s
  | .estopAssertion => Sys2Proof.Machine.execEstopAssertion s
  | .estopRelease => Sys2Proof.Machine.execEstopRelease s
  | .idleTimerExpiry => Sys2Proof.Machine.execIdleTimerExpiry s
  | .wakeEnd => Sys2Proof.Machine.execWakeEnd s
  | .manifoldStale m => Sys2Proof.Machine.execManifoldStale m s
  | .stirStart m => Sys2Proof.Machine.execStirStart m s
  | .stirComplete m => Sys2Proof.Machine.execStirComplete m s
  | .pumpStep m => Sys2Proof.Machine.execPumpStep m s
  | .stall m => Sys2Proof.Machine.execStall m s
  | .floatTrip c => Sys2Proof.Machine.execFloatTrip c s
  | .floatClear c => Sys2Proof.Machine.execFloatClear c s
  | .weighReading count ms => Sys2Proof.Machine.execWeighReading count ms s
  | .strayLoad => Sys2Proof.Machine.execStrayLoad s
  | .stationSelect => Sys2Proof.Machine.execStationSelect s
  | .drawEnd => Sys2Proof.Machine.execDrawEnd s
  | .unparkEnd => Sys2Proof.Machine.execUnparkEnd s
  | .settleEnd => Sys2Proof.Machine.execSettleEnd s
  | .parkEnd => Sys2Proof.Machine.execParkEnd s
  | .dischargeEnd => Sys2Proof.Machine.execDischargeEnd s
  | .rejectEnd => Sys2Proof.Machine.execRejectEnd s
  | .loadEnd k => Sys2Proof.Machine.execLoadEnd k s
  | .mixRunComplete k => Sys2Proof.Machine.execMixRunComplete k s
  | .imbalance k => Sys2Proof.Machine.execImbalance k s
  | .reclampEnd k => Sys2Proof.Machine.execReclampEnd k s
  | .unloadEnd k => Sys2Proof.Machine.execUnloadEnd k s
  | .feedEnd lidPresent => Sys2Proof.Machine.execFeedEnd lidPresent s
  | .reseatLidPresent lidPresent => Sys2Proof.Machine.execReseatLidPresent lidPresent s
  | .seatEnd force => Sys2Proof.Machine.execSeatEnd force s
  | .ejectionEnd => Sys2Proof.Machine.execEjectionEnd s

end Sys2Proof.Machine
end

