-- ==== Sys2Proof/Safety.lean ====
section
/-! DEFINITION. What a safe run is, and the words the statements use: which command is which request, the answer a served request
gets, the bounds the manual states for the records of every block, and how those records agree with one another. -/

namespace Sys2Proof.Machine

/-! ## Safe runs -/

/-- A step goes on: it answers a next state, no fault and no refusal. -/
def StepGoesOn (s : State) : Prop := ∃ t, step s = .next t

/-- A run of `k` steps goes on. -/
def RunGoesOn (k : Nat) (s : State) : Prop := ∃ t, Host.Core.run Sys2Proof.core k s = .next t

/-! ## Requests -/

/-- The request kind and the body that a request command carries (Message reference); no other command carries one. -/
def requestOf : Instr → Option (RequestKind × Body)
  | .ident b => some (.ident, b)
  | .order b => some (.order, b)
  | .cancel b => some (.cancel, b)
  | .jobQuery b => some (.jobQuery, b)
  | .release b => some (.release, b)
  | .canisterSet b => some (.canisterSet, b)
  | .canisterStateOffline b | .canisterStateOnline b | .canisterStateClearCheck b => some (.canisterState, b)
  | .refill b => some (.refill, b)
  | .canisterQuery b => some (.canisterQuery, b)
  | .stockLoad b => some (.stockLoad, b)
  | .stockSet b => some (.stockSet, b)
  | .lineSet b => some (.lineSet, b)
  | .lineModeRun b | .lineModeQuiet b | .lineModeSleep b => some (.lineMode, b)
  | .lineResume b => some (.lineResume, b)
  | .clearFaultManifold b | .clearFaultMixer b | .clearFaultPress b => some (.clearFault, b)
  | .lineQuery b => some (.lineQuery, b)
  | .fetch b => some (.fetch, b)
  | .reset b => some (.reset, b)
  | .powerOnReset _ _ | .lineClockTick | .receiveByte _ _ | .gapTimerExpiry | .serveLinkErr | .unknownKind _ _
  | .estopAssertion | .estopRelease | .idleTimerExpiry | .wakeEnd | .manifoldStale _ | .stirStart _ | .stirComplete _
  | .pumpStep _ | .stall _ | .floatTrip _ | .floatClear _ | .weighReading _ _ | .strayLoad | .stationSelect | .drawEnd
  | .unparkEnd | .settleEnd | .parkEnd | .dischargeEnd | .rejectEnd | .loadEnd _ | .mixRunComplete _ | .imbalance _
  | .reclampEnd _ | .unloadEnd _ | .feedEnd _ | .reseatLidPresent _ | .seatEnd _ | .ejectionEnd => none

/-- The body length of the request kinds whose length is fixed (Message reference). -/
def RequestKind.bodyLength : RequestKind → Option Nat
  | .order => none
  | .ident | .lineResume | .lineQuery | .reset => some 0
  | .canisterQuery | .lineMode | .clearFault | .fetch => some 1
  | .cancel | .jobQuery | .release | .canisterState => some 2
  | .stockLoad | .stockSet => some 3
  | .refill => some 5
  | .canisterSet | .lineSet => some 12

/-- The state in which the reply to a request has been sent, its count brought up to date (R178, R179, R180). -/
def State.answered (s : State) (k : RequestKind) (r : Result) (fields : List Byte) : State :=
  Answer.send { result := r, fields := fields, state := s } k

/-- The state in which an uncounted reply has been sent (R178, R179). -/
def State.replied (s : State) (kind code : Byte) : State :=
  { s with link := { s.link with
      reply := some { kind := kind, code := code, count := s.link.actionCount, fields := [] } } }

/-- The result codes that carry out a request: OK, CLAMPED and DEFERRED (R180). -/
def acceptedCodes : List Byte := [0x00, 0x01, 0x02]

/-! ## Bounds of the records -/

/-- The Report Queue within its bounds, and ATTN as the queue has it (R166, R169, R171). -/
def State.reportsOk (s : State) : Prop :=
  s.reports.queue.length ≤ 64 ∧ s.reports.overflow ≤ 255 ∧ s.link.attn = s.reports.queue.any (·.urgent)

/-- A canister's fields within the ranges of R42. -/
def Canister.inRange (k : Canister) : Prop :=
  k.code ≤ 250 ∧ 800 ≤ k.density ∧ k.density ≤ 2500 ∧ k.usable ≤ 600000 ∧ k.lowMark ≤ 600000 ∧ k.missCount ≤ 3

/-- Every canister's fields within the ranges of R42. -/
def State.bankOk (s : State) : Prop := ∀ c : CanisterId, (s.canister c).inRange

/-- Every count between 0 and its magazine's capacity (R151). -/
def State.stockOk (s : State) : Prop :=
  ∀ z : Size, s.magazines.tins[z] ≤ Config.tinCapacity z ∧ s.magazines.lids[z] ≤ Config.lidCapacity z

/-- The receive buffer and the LINK_ERR replies owed within their bounds (R177). -/
def State.bufferOk (s : State) : Prop := s.link.buffered ≤ 512 ∧ s.link.owed ≤ 32

/-- A drive neither doses nor stirs (R64). -/
def Drive.atRest (d : Drive) : Prop :=
  match d.state with
  | .idle | .faulted _ => True
  | .dosing _ | .stirring _ _ => False

/-- Line Mode Control's records agree with one another and with the drives: the saved mode stands only in HALTED, an asserted E-STOP
means HALTED, the idle timer runs exactly while the line is idle in RUN or QUIET, and while the line is HALTED both drives are halted
and at rest (R153, R156, R160, R64, R76). -/
def State.lineOk (s : State) : Prop :=
  (s.line.saved.isSome ↔ s.line.mode = .halted) ∧ (s.line.estop = true → s.line.mode = .halted)
    ∧ (s.line.idle.running = true ↔ (s.line.mode = .run ∨ s.line.mode = .quiet) ∧ s.line.presence.idle = true)
    ∧ (s.line.mode = .halted → ∀ m, (s.drive m).halted = true ∧ (s.drive m).atRest)

/-! ## The records agree with one another -/

/-- At most 32 records, and no two of one tag (R1, R4). -/
def State.tableOk (s : State) : Prop := s.orders.jobs.length ≤ 32 ∧ (s.orders.jobs.map (·.tag)).Nodup

/-- The four presence flags as the blocks' records stand (R155): a QUEUED job (R12); a job at the station or a shelf not FREE (R107,
R109); a tag in the mix lane or a mixer not IDLE (R137); a tag in the lid lane, a held place or a tag in the press (R150). -/
def State.presenceOk (s : State) : Prop :=
  (s.line.presence.jobsQueued = true ↔ ∃ j ∈ s.orders.jobs, j.state = .queued)
    ∧ (s.line.presence.tinAtStation = true ↔ s.station.job ≠ none ∨ ∃ i : ShelfId, s.rack.shelves[i] ≠ .free)
    ∧ (s.line.presence.tinInMix = true ↔ s.mixers.lane ≠ [] ∨ ∃ k, (s.mixer k).state ≠ .idle)
    ∧ (s.line.presence.tinInLid = true ↔ s.press.lane ≠ [] ∨ s.press.heldPlaces ≠ 0 ∨ s.press.tag ≠ none)

/-- The bank, the drives and the station agree on what is being dosed. `covered` is R48, with the steps of a top-up run in progress, which
leave usable steps alone (R43, R46); the other fields are what it rests on. -/
structure State.DosingOk (s : State) : Prop where
  /-- In READY or LOW the reserved steps, and those asked by a top-up run in progress, do not exceed the usable steps (R43, R48). -/
  covered : ∀ c : CanisterId, (s.canister c).state = .ready ∨ (s.canister c).state = .low →
    (s.canister c).reserved + s.topUpAsked c ≤ (s.canister c).usable
  /-- A run in progress is on a canister of its manifold, short of its steps asked, and one of the runs of the round that the station, in
  DOSING, waits for; a top-up run's canister is READY or LOW (R49, R64, R71, R91, R94). -/
  runs : ∀ m r, (s.drive m).state = .dosing r → manifoldOf r.canister = m ∧ r.pumped < r.asked ∧ s.station.state = .dosing ∧
    (r.topUp = true → (s.canister r.canister).state = .ready ∨ (s.canister r.canister).state = .low) ∧
    ∃ q, s.station.round = some q ∧ ∃ x ∈ q.runs, x.canister = r.canister ∧ x.ended = none
  /-- A round keeps the densities of defined canisters (R42, R91). -/
  densities : ∀ q, s.station.round = some q → ∀ x ∈ q.runs, 0 < x.density
  /-- First-round figures stand only until their top-up is judged or abandoned; in WAIT_DRIVE their dose has its top-up steps (R98, R99). -/
  topUp : ∀ f, s.station.firstRound = some f → s.station.state = .dosing ∨ s.station.state = .weighing .round ∨
    (s.station.state = .waitDrive ∧ ∃ j ∈ s.orders.jobs, s.station.job = some j.tag ∧ j.state = .dosing ∧
      (∃ d ∈ j.doses, d.code = f.code) ∧ ∀ d ∈ j.doses, d.code = f.code → 0 < d.topUp)
  /-- The job at the station is DOSING until its tin is to leave for the mix lane (R6, R7, R8). -/
  job : ∀ t, s.station.job = some t → s.station.state ≠ .discharging → s.station.state ≠ .held →
    ∃ j ∈ s.orders.jobs, j.tag = t ∧ j.state = .dosing

/-- The states of a job whose outstanding doses are reserved: QUEUED, DOSING and PARKED (R47). -/
def JobState.reserves : JobState → Bool
  | .queued | .dosing | .parked _ _ => true
  | .dosed | .mixing | .mixed | .lidding | .done | .failed _ | .cancelled => false

/-- The steps a job reserves on a canister: the outstanding steps of its doses assigned to it (R33, R47). -/
def Job.outstandingOn (j : Job) (c : CanisterId) : Nat :=
  if j.state.reserves then ((j.doses.filter (fun d => d.canister = c)).map (·.outstanding)).sum else 0

/-- The sum of R47 for a canister, over every job of the Order Table. -/
def State.outstandingOn (s : State) (c : CanisterId) : Nat := (s.orders.jobs.map (·.outstandingOn c)).sum

/-- The job at the station is DOSING and has a dose of a colourant code on a canister, with so many steps outstanding (R3, R107). -/
def State.hasDose (s : State) (code : Nat) (c : CanisterId) (outstanding : Nat) : Prop :=
  ∃ j ∈ s.orders.jobs, s.station.job = some j.tag ∧ j.state = .dosing ∧
    ∃ d ∈ j.doses, d.code = code ∧ d.canister = c ∧ d.outstanding = outstanding

/-- The bank's account agrees with the Order Table. `reserved` is R47; the other fields are what it rests on: that a run end lowers a
dose's outstanding steps and its canister's reserved steps alike, and that a top-up run lowers neither (R45, R46). -/
structure State.ReservedOk (s : State) : Prop where
  /-- The reserved steps of a canister are the outstanding steps of the doses assigned to it in QUEUED, DOSING and PARKED jobs (R47). -/
  reserved : ∀ c : CanisterId, (s.canister c).reserved = s.outstandingOn c
  /-- The doses of a job have different colourant codes (R26). -/
  codes : ∀ j ∈ s.orders.jobs, (j.doses.map (·.code)).Nodup
  /-- A run in progress is on a dose of the job at the station: an ordinary run is asked for the dose's outstanding steps, and the dose of
  a top-up run has none (R37, R91, R94). -/
  runs : ∀ m r, (s.drive m).state = .dosing r →
    s.station.job = some r.tag ∧ s.hasDose r.code r.canister (if r.topUp then 0 else r.asked)
  /-- A run of an ordinary round is in progress until its end is recorded, and one that ended with the steps asked for leaves its dose no
  outstanding steps (R94). -/
  round : ∀ q, s.station.round = some q → q.topUp = false → s.station.state = .dosing ∨ s.station.state = .weighing .round →
    ∀ x ∈ q.runs,
      (x.ended = none → ∃ r, (s.drive (manifoldOf x.canister)).state = .dosing r ∧ r.canister = x.canister ∧ r.code = x.code ∧
        r.asked = x.asked ∧ r.topUp = false) ∧
      (∀ e, x.ended = some e → e.pumped = x.asked → s.hasDose x.code x.canister 0)
  /-- The dose of a top-up due in WAIT_DRIVE has no outstanding steps (R37, R99). -/
  due : ∀ f, s.station.firstRound = some f → s.station.state = .waitDrive → s.hasDose f.code f.canister 0

end Sys2Proof.Machine
end

