-- ==== Sys2Proof/Certificates/Slice0/Obligations.lean ====
section
/-! DEFINITION. The statements for the provers. A request is served where nothing waits or where it stands at the head of the order of
service (`Link.serves`, log 3); `beginService` is the state with its bytes gone from the buffer, and `answered` the state in which its
reply has been sent and the action count brought up to date. `conclude` makes the standing tests (log 6); what they do and leave alone
is the statement StandingTestsFrame, what `post` writes is FullQueuePosting, and `answered` is spelled in WrongLengthRefused. -/

open Sys2Proof Sys2Proof.Machine

/-! ## The queue of commands, power-on and the invariants at reset -/

/-- A step runs the command at the front of the queue; on an empty queue the part idles. Log 1: the model's choice. -/
def Obligations.StepTakesFrontCommand : Prop :=
  (∀ (c : Instr) (s : State), step { s with pending := c :: s.pending } = exec c s) ∧
  (∀ s : State, s.pending = [] → step s = .next s)

/-- After POWER_ON_RESET every block holds its POR values, whatever the state before (R24, R63, R80, R108, R123, R138, R150, R151,
R165, R172, R182). The queue of commands, which is the model's own, is kept (log 1). -/
def Obligations.PowerOnValues : Prop :=
  ∀ (estop : Bool) (floats : BitVec 16) (s : State), ∃ t, exec (.powerOnReset estop floats) s = .next t ∧
    t.pending = s.pending ∧ t.orders = { jobs := [], admissionCounter := 0, finishCounter := 0 } ∧
    (∀ c : CanisterId, t.canister c =
      { code := 0, density := 1000, usable := 0, reserved := 0, lowMark := 60000, state := .offline,
        tripped := floats.getLsbD c.val, missCount := 0, offlinePending := false }) ∧
    (∀ m : Manifold, t.drive m =
      { state := if estop then .idle else .stirring 0 90, stirClock := 4294967295, stale := true, halted := estop }) ∧
    t.station =
      { state := .tareWait, job := none, readingBefore := none, round := none, firstRound := none, transfer := none,
        halted := estop } ∧
    (t.weigh.zero = 0 ∧ t.weigh.tareValid = false ∧ t.weigh.window = [] ∧ t.weigh.tracked = 0 ∧ t.weigh.strayMs = none) ∧
    ((∀ i : ShelfId, t.rack.shelves[i] = .free) ∧ t.rack.parkCounter = 0) ∧
    (t.mixers.lane = [] ∧ t.mixers.heldPlace = false ∧
      ∀ k : MixerId, t.mixer k =
        { state := .idle, tag := none, mixTime := none, lidLanePlace := false, cycleCount := 0, halted := estop }) ∧
    t.press = { lane := [], heldPlaces := 0, state := .idle, tag := none, lidInHead := false, failures := 0, halted := estop } ∧
    (∀ z : Size, t.magazines.tins[z] = 0 ∧ t.magazines.lids[z] = 0) ∧
    t.reports = { queue := [], overflow := 0 } ∧
    (t.line.mode = (if estop then .halted else .standby) ∧ t.line.saved = (if estop then some .standby else none) ∧
      t.line.working = .run ∧ t.line.estop = estop ∧ t.line.idle = { elapsed := 0, running := false } ∧
      t.line.presence = { jobsQueued := false, tinAtStation := false, tinInMix := false, tinInLid := false } ∧
      t.line.settings =
        { stirInterval := 60, stirDuration := 90, heartbeat := true, tolerance := 4, idleTimeout := 300,
          loadLimits := #v[40, 60, 100, 140], notifyAll := false } ∧
      t.line.clock = 0) ∧
    (t.link.assembler = .hunt ∧ t.link.service = [] ∧ t.link.actionCount = 0 ∧ t.link.attn = false)

/-- The reset state is what POWER_ON_RESET leaves with E-STOP RELEASED and every float CLEAR (logs 10 and 11: the model's choices), and
it meets every invariant stated below. -/
def Obligations.ResetStateMeetsEveryInvariant : Prop :=
  (∀ s : State, exec (.powerOnReset false 0#16) s = .next { State.reset with pending := s.pending }) ∧
  State.reset.reportsOk ∧ State.reset.bankOk ∧ State.reset.stockOk ∧ State.reset.bufferOk ∧ State.reset.lineOk ∧
  State.reset.tableOk ∧ State.reset.presenceOk ∧ State.reset.DosingOk ∧ State.reset.ReservedOk

/-! ## Whole-machine invariants -/

/-- Every step keeps the Report Queue within its bounds and ATTN asserted exactly while an urgent record is held (R166, R169, R171). -/
def Obligations.ReportsKeptByEveryStep : Prop :=
  ∀ s t : State, s.reportsOk → step s = .next t → t.reportsOk

/-- Every step keeps every canister's fields within the ranges of R42. Where the Order Table holds one record of a tag, every step keeps the
bank, the drives and the station in agreement on what is being dosed (`DosingOk`): the reserved steps of a canister in READY or LOW, with
those asked by a top-up run in progress on it, do not exceed its usable steps (R43, R46, R48), and a run in progress is one of the runs of
the round that the DOSING station waits for, on a canister of its manifold and short of its steps asked (R64, R71, R91, R94). With these it
keeps the bank's law (`ReservedOk`): the reserved steps of every canister are the outstanding steps of the doses assigned to it in QUEUED,
DOSING and PARKED jobs (R47), since an ordinary run is asked for its dose's outstanding steps and the dose of a top-up run has none (R45,
R46, R91). -/
def Obligations.BankKeptInRange : Prop :=
  (∀ s t : State, s.bankOk → step s = .next t → t.bankOk) ∧
  (∀ s t : State, s.bankOk → s.tableOk → s.DosingOk → step s = .next t → t.DosingOk) ∧
  (∀ s t : State, s.bankOk → s.tableOk → s.DosingOk → s.ReservedOk → step s = .next t →
    t.ReservedOk ∧ ∀ c : CanisterId, (t.canister c).reserved = ((t.orders.jobs.filter (fun j =>
      j.state == .queued || j.state == .dosing || j.isParked)).flatMap (fun j =>
        (j.doses.filter (fun d => d.canister == c)).map (·.outstanding))).sum)

/-- Every step keeps every magazine count within its capacity (R151). -/
def Obligations.StockKeptWithinCapacity : Prop :=
  ∀ s t : State, s.stockOk → step s = .next t → t.stockOk

/-- Every step keeps the receive buffer at 512 bytes at most and the LINK_ERR replies owed for discarded frames at 32 at most (R177). -/
def Obligations.BufferKeptWithinBounds : Prop :=
  ∀ s t : State, s.bufferOk → step s = .next t → t.bufferOk

/-- Every step keeps Line Mode Control's records in agreement: the saved mode stands only in HALTED (R153), an asserted E-STOP means HALTED
(R160, R161), the idle timer runs exactly while the line is idle in RUN or QUIET (R156), and while the line is HALTED both drives are
halted and neither dose nor stir (R64, R76). Where the Order Table holds one record of a tag, every step keeps the four presence flags as
the blocks' records stand (R155): a QUEUED job (R12); a job at the station or a shelf not FREE (R107, R109); a tag in the mix lane or a
mixer not IDLE (R137); a tag in the lid lane, a held place or a tag in the press (R150). That the place of the mix lane which a discharging
station holds does not itself count for the third flag is the model's reading (log 27, DEDUCED). -/
def Obligations.LineRecordsAgree : Prop :=
  (∀ s t : State, s.lineOk → step s = .next t → t.lineOk) ∧
  (∀ s t : State, s.tableOk → s.presenceOk → step s = .next t → t.presenceOk)

/-! ## Whole-machine rules over all commands -/

/-- The line clock rises by 1 with each second, passing from its top to 0, stands at 0 after POR, and no other command sets it
(R163). -/
def Obligations.ClockMovesOnlyWithTheTick : Prop :=
  (∀ s : State, ∃ t, exec .lineClockTick s = .next t ∧
    t.line.clock.toNat = if s.line.clock.toNat = 4294967295 then 0 else s.line.clock.toNat + 1) ∧
  (∀ (e : Bool) (f : BitVec 16) (s : State), ∃ t, exec (.powerOnReset e f) s = .next t ∧ t.line.clock = 0) ∧
  (∀ (i : Instr) (s : State), i ≠ .lineClockTick → (∀ e f, i ≠ .powerOnReset e f) →
    ∃ t, exec i s = .next t ∧ t.line.clock = s.line.clock)

/-- A finished record stays in its slot, unchanged, until RELEASE, an ORDER, RESET or power-on frees it (R1, R5). Every step keeps the Order
Table at 32 records at most, no two of them of one tag (R1, R4). -/
def Obligations.FinishedRecordsReadOnly : Prop :=
  (∀ (i : Instr) (s t : State) (j : Job), exec i s = .next t → j ∈ s.orders.jobs → j.finished = true →
    j ∈ t.orders.jobs ∨ (∃ b, i = .release b) ∨ (∃ b, i = .order b) ∨ (∃ b, i = .reset b) ∨ ∃ e f, i = .powerOnReset e f) ∧
  (∀ s t : State, s.tableOk → step s = .next t → t.tableOk)

/-- No command but REFILL and CANISTER_SET raises a canister's usable steps (R44, R48). -/
def Obligations.UsableRaisedOnlyByRefillOrSet : Prop :=
  ∀ (i : Instr) (s t : State) (c : CanisterId), exec i s = .next t →
    (t.canister c).usable ≤ (s.canister c).usable ∨ (∃ b, i = .refill b) ∨ ∃ b, i = .canisterSet b

/-- While the station is neither EMPTY nor TARE_WAIT nor STRAY no command but power-on changes the zero (R83). -/
def Obligations.ZeroKeptUnderATin : Prop :=
  ∀ (i : Instr) (s t : State), exec i s = .next t → (∀ e f, i ≠ .powerOnReset e f) →
    s.station.state ≠ .empty → s.station.state ≠ .tareWait → s.station.state ≠ .stray → t.weigh.zero = s.weigh.zero

/-- A request that is served and whose reply is neither OK nor CLAMPED nor DEFERRED changes nothing but the reply sent, and its reply
carries the action count unchanged (R52, R178, R180). -/
def Obligations.RefusedRequestChangesNothing : Prop :=
  ∀ (i : Instr) (k : RequestKind) (body : Body) (s t : State) (r : Reply), requestOf i = some (k, body) →
    s.link.serves k.code body = true → exec i s = .next t → t.link.reply = some r → r.code ∉ acceptedCodes →
    t = { s.beginService with link := { s.beginService.link with reply := some r } } ∧ r.count = s.link.actionCount

/-- The action count lies in 0 to 63. It rises by 1, from 63 to 1, for a served request answered OK, CLAMPED or DEFERRED whose kind is
counted; POR and an accepted RESET set it to 0; every other command leaves it. Every reply to a served request carries the count as it
is left, and every other reply, of a LINK_ERR or to an unlisted kind, the count unchanged (R180). -/
def Obligations.ActionCountRises : Prop :=
  (∀ (i : Instr) (s t : State), s.link.actionCount ≤ 63 → exec i s = .next t → t.link.actionCount ≤ 63) ∧
  (∀ (i : Instr) (k : RequestKind) (body : Body) (s : State), requestOf i = some (k, body) →
    s.link.serves k.code body = true → ∃ t r, exec i s = .next t ∧ t.link.reply = some r ∧ r.count = t.link.actionCount ∧
      t.link.actionCount =
        (if k = .reset ∧ r.code = 0x00 then 0
         else if r.code ∈ acceptedCodes ∧ k ∉ [.ident, .jobQuery, .canisterQuery, .lineQuery, .reset] then
           (if 63 ≤ s.link.actionCount then 1 else s.link.actionCount + 1)
         else s.link.actionCount)) ∧
  (∀ (i : Instr) (k : RequestKind) (body : Body) (s : State), requestOf i = some (k, body) →
    s.link.serves k.code body = false → ∃ t, exec i s = .next t ∧ t.link.actionCount = s.link.actionCount) ∧
  (∀ (i : Instr) (s : State), requestOf i = none → (∀ e f, i ≠ .powerOnReset e f) →
    ∃ t, exec i s = .next t ∧ t.link.actionCount = s.link.actionCount ∧
      (t.link.reply = s.link.reply ∨ ∃ r, t.link.reply = some r ∧ r.count = s.link.actionCount)) ∧
  (∀ (e : Bool) (f : BitVec 16) (s : State), ∃ t, exec (.powerOnReset e f) s = .next t ∧ t.link.actionCount = 0)

/-- The standing tests that end a step, each on the records as they stand. A QUEUED job wakes a line in STANDBY, its idle timer at 0 (R156,
R157); the presence flags follow the records (R155). An IDLE drive with a stir due, its halted flag clear, in a mode that allows it starts
one; a drive at work or FAULTED is left (R66, R67, R68). An IDLE press feeds the head of the lid lane, a press in WAIT_LID leaves it (R141,
R143); the winner loads the head tin of the mix lane, the earliest HOLDING mixer takes a free lid-lane place (R126, R132). The station, its
halted flag clear, selects where it is EMPTY with a valid tare in RUN or QUIET (R86), makes its boundary decisions again in WAIT_DRIVE
without a top-up due and in BLOCKED (R92, R93), and asks again for a place of the mix lane in HELD (R101); a halted one does nothing
(R105). What the tests leave alone: the line clock, the settings, the working and the saved mode, the E-STOP input, the link but for ATTN,
the queue, both counters of the Order Table, the zero and the latest reading, every canister's account and definition, every finished
record, every job's tag, delivered steps and admission number. The order of the tests is the model's choice (log 6), as is the station's
testing without a listed notice (log 28); that a held place of the mix lane does not count for the flag of tins in the mix lane and mixers
is the model's reading (log 27, DEDUCED). -/
def Obligations.StandingTestsFrame : Prop :=
  (∀ s : State,
    s.conclude.line.clock = s.line.clock ∧ s.conclude.line.settings = s.line.settings ∧
    s.conclude.line.working = s.line.working ∧ s.conclude.line.saved = s.line.saved ∧ s.conclude.line.estop = s.line.estop ∧
    (∃ a : Bool, s.conclude.link = { s.link with attn := a }) ∧ s.conclude.pending = s.pending ∧
    s.conclude.orders.admissionCounter = s.orders.admissionCounter ∧ s.conclude.orders.finishCounter = s.orders.finishCounter ∧
    s.conclude.weigh.zero = s.weigh.zero ∧ s.conclude.weigh.latest = s.weigh.latest ∧
    (∀ c : CanisterId, ∃ (x : CanisterState) (n : Nat),
      s.conclude.canister c = { s.canister c with state := x, missCount := n }) ∧
    (∀ j ∈ s.orders.jobs, j.finished = true → j ∈ s.conclude.orders.jobs) ∧
    s.conclude.orders.jobs.map (fun j => (j.tag, j.delivered, j.admission)) =
      s.orders.jobs.map (fun j => (j.tag, j.delivered, j.admission))) ∧
  (∀ s : State,
    let st := s.station
    (st.halted = true → s.stationTest = s) ∧
    (st.halted = false → st.state = .empty → s.stationTest = s.select) ∧
    (st.halted = false → st.state = .waitDrive → st.firstRound = none → s.stationTest = s.boundary) ∧
    (st.halted = false → st.state = .blocked → s.stationTest = s.boundary) ∧
    (st.halted = false → st.state = .held →
      (s.mixers.lane.length + (if s.mixers.heldPlace then 1 else 0) < 3 → s.stationTest = { s with
        mixers := { s.mixers with heldPlace := true }
        station := { st with state := .discharging, transfer := some .discharge } }) ∧
      (3 ≤ s.mixers.lane.length + (if s.mixers.heldPlace then 1 else 0) → s.stationTest = { s with
        station := { st with transfer := none } })) ∧
    (st.state ≠ .empty → st.state ≠ .waitDrive → st.state ≠ .blocked → st.state ≠ .held → s.stationTest = s) ∧
    exec .stationSelect s = .next s.select.noticePresence ∧
    ((s.maySelect = false ∨ s.selection = none) → s.select = s) ∧
    (∀ j, s.maySelect = true → s.selection = some (.draw j) →
      s.select.station = { st with state := .drawing, job := some j.tag, transfer := some .draw }) ∧
    (∀ j i, s.maySelect = true → s.selection = some (.unpark j) → s.rack.shelfHolding j.tag = some i →
      s.select.station = { st with state := .unparking, job := some j.tag, transfer := some (.unpark i) })) ∧
  (∀ s : State,
    let working := s.line.mode = .run ∨ s.line.mode = .quiet
    let queued := ∃ j ∈ s.orders.jobs, j.state = .queued
    s.conclude.presenceOk ∧
    (s.line.mode = .standby → queued →
      s.conclude.line.mode = .waking ∧ s.conclude.line.idle = { elapsed := 0, running := false }) ∧
    (s.line.mode ≠ .standby ∨ ¬ queued → s.conclude.line.mode = s.line.mode) ∧
    (∀ m : Manifold,
      let d := s.drive m
      let allowed := s.line.mode = .run ∨ s.line.mode = .quiet ∨ s.line.mode = .standby ∨ s.line.mode = .waking ∨
        (s.line.mode = .sleep ∧ s.line.settings.heartbeat = true)
      let starts := d.state = .idle ∧ (s.line.settings.stirInterval * 60 ≤ d.stirClock ∨ d.stale = true) ∧ d.halted = false ∧ allowed
      (starts → s.conclude.drive m = { d with state := .stirring 0 s.line.settings.stirDuration }) ∧
      (d.state ≠ .idle → s.conclude.drive m = d) ∧
      (d.state = .idle → ¬ starts → s.conclude.drive m = d ∨
        ∃ r, r.pumped = 0 ∧ d.halted = false ∧ s.conclude.drive m = { d with state := .dosing r })) ∧
    (∀ t rest j, s.press.lane = t :: rest → s.liveJob t = some j → s.press.state = .idle →
      (working → s.press.halted = false → 0 < s.magazines.lids[j.size] →
        s.conclude.press.state = .seating .feed ∧ s.conclude.press.tag = some t ∧ s.conclude.press.lidInHead = true ∧
        s.conclude.press.lane = rest) ∧
      (¬ working ∨ s.press.halted = true ∨ s.magazines.lids[j.size] = 0 →
        s.conclude.press.state = .idle ∧ s.conclude.press.lane = t :: rest)) ∧
    (∀ due j, s.press.state = .waitLid due → s.pressJob = some j →
      (working → s.press.halted = false → 0 < s.magazines.lids[j.size] →
        s.conclude.press.state = (if due = .first then .seating .feed else .reseating) ∧ s.conclude.press.lidInHead = true) ∧
      (¬ working ∨ s.press.halted = true ∨ s.magazines.lids[j.size] = 0 → s.conclude.press.state = .waitLid due)) ∧
    (∀ t rest j k, s.mixers.lane = t :: rest → s.liveJob t = some j → working → s.winner j.size = some k →
      s.conclude.mixer k = { s.mixer k with
        state := .loading, tag := some t, mixTime := some (j.mixTime s.line.mode) }) ∧
    (∀ k rest, s.mixers.holdOrder = k :: rest → s.press.lane.length + s.press.heldPlaces < 3 → (s.mixer k).state = .holding →
      (s.mixer k).halted = false → s.conclude.mixer k = { s.mixer k with state := .unloading, lidLanePlace := true }))

/-! ## The link -/

/-- What each received byte does in each state of the frame assembler, where the buffer has room; after POR and after RESET the
assembler is in HUNT (R174). -/
def Obligations.ReceiveByteTable : Prop :=
  (∀ (s : State) (b : Byte), s.link.buffered < 512 →
    (s.link.assembler = .hunt → b = 0xA5 →
      exec (.receiveByte b true) s = .next { s with link := { s.link with assembler := .length } }) ∧
    (s.link.assembler = .hunt → b ≠ 0xA5 → exec (.receiveByte b true) s = .next s) ∧
    (s.link.assembler = .length → 1 ≤ b.toNat → b.toNat ≤ 250 →
      exec (.receiveByte b true) s = .next { s with link := { s.link with assembler := .kind b.toNat } }) ∧
    (s.link.assembler = .length → (b = 0 ∨ 251 ≤ b.toNat) →
      exec (.receiveByte b true) s = .next { s with link := { s.link with assembler := .hunt } }) ∧
    (∀ len, s.link.assembler = .kind len → exec (.receiveByte b true) s =
      .next { s with link := { s.link with assembler := if len = 1 then .check len b [] none else .body len b [] } }) ∧
    (∀ len kind body, s.link.assembler = .body len kind body → body.length + 1 = len - 1 → exec (.receiveByte b true) s =
      .next { s with link := { s.link with assembler := .check len kind (body ++ [b]) none } }) ∧
    (∀ len kind body, s.link.assembler = .body len kind body → body.length + 1 ≠ len - 1 → exec (.receiveByte b true) s =
      .next { s with link := { s.link with assembler := .body len kind (body ++ [b]) } }) ∧
    (∀ len kind body, s.link.assembler = .check len kind body none → exec (.receiveByte b true) s =
      .next { s with link := { s.link with assembler := .check len kind body (some b) } }) ∧
    (∀ len kind body high, s.link.assembler = .check len kind body (some high) →
      ∃ t, exec (.receiveByte b true) s = .next t ∧ t.link.assembler = .hunt)) ∧
  (∀ e f s, ∃ t, exec (.powerOnReset e f) s = .next t ∧ t.link.assembler = .hunt) ∧
  (∀ s : State, s.link.serves RequestKind.reset.code [] = true → s.occupied = false →
    ∃ t, exec (.reset []) s = .next t ∧ t.link.assembler = .hunt)

/-- The check code: a 16-bit register starts at 0xFFFF; each bit, a byte's most significant first, is taken with the bit shifted out at the
top, and where the two differ the register takes x^12 + x^5 + 1, x^16 having been shifted out; nothing is reflected or inverted; the
manual's test figure is 0x29B1 (R175). A frame as sent is SYNC, LEN, KIND, BODY and the check code over LEN, KIND and BODY, high byte
first, a reply's body its code, its count and its fields (R175, R179). The end of a frame: the second check byte makes a request of a frame
whose check code agrees, and owes BAD_CHECK for any other (R175). The gap timer's expiry owes TRUNCATED for an open frame (R176). A byte
that finds 512 bytes held, and a frame discarded while 32 replies are owed, overrun the buffer (R177). A byte without a valid stop bit is
discarded (R173). -/
def Obligations.FrameEndsAndOverruns : Prop :=
  (crc [] = 0xFFFF#16 ∧
    (∀ (bs : List Byte) (b : Byte), crc (bs ++ [b]) =
      [7, 6, 5, 4, 3, 2, 1, 0].foldl (fun (r : BitVec 16) (i : Nat) =>
        if r.getLsbD 15 = b.getLsbD i then r <<< 1 else (r <<< 1) ^^^ (1#16 <<< 12 ||| 1#16 <<< 5 ||| 1#16)) (crc bs)) ∧
    crc [0x31, 0x32, 0x33, 0x34, 0x35, 0x36, 0x37, 0x38, 0x39] = 0x29B1#16 ∧
    (∀ (kind : Byte) (body : Body),
      let len : Byte := BitVec.ofNat 8 (body.length + 1)
      let check := (crc (len :: kind :: body)).toNat
      frameBytes kind body = 0xA5 :: len :: kind :: body ++ [BitVec.ofNat 8 (check / 256), BitVec.ofNat 8 check]) ∧
    (∀ r : Reply, r.frame = frameBytes r.kind (r.code :: BitVec.ofNat 8 r.count :: r.fields))) ∧
  (∀ (s : State) (b : Byte), exec (.receiveByte b false) s = .next s) ∧
  (∀ (s : State) (b : Byte), 512 ≤ s.link.buffered → exec (.receiveByte b true) s = .next { s with link := s.link.overrun }) ∧
  (∀ l : Link, l.overrun.assembler = .hunt ∧ l.overrun.actionCount = l.actionCount ∧ l.overrun.reply = l.reply ∧
    l.overrun.attn = l.attn ∧
    l.overrun.service = l.service.filter (·.isLinkErr) ++ if .linkErr .overrun ∈ l.service then [] else [.linkErr .overrun]) ∧
  (∀ (s : State) (b high kind : Byte) (len : Nat) (body : Body), s.link.buffered < 512 →
    s.link.assembler = .check len kind body (some high) →
    (crc (BitVec.ofNat 8 len :: kind :: body) = high ++ b → exec (.receiveByte b true) s =
      .next { s with link := { s.link with assembler := .hunt, service := s.link.service ++ [.request kind body] } }) ∧
    (crc (BitVec.ofNat 8 len :: kind :: body) ≠ high ++ b → s.link.owed < 32 → exec (.receiveByte b true) s =
      .next { s with link := { s.link with assembler := .hunt, service := s.link.service ++ [.linkErr .badCheck] } }) ∧
    (crc (BitVec.ofNat 8 len :: kind :: body) ≠ high ++ b → 32 ≤ s.link.owed → exec (.receiveByte b true) s =
      .next { s with link := s.link.overrun })) ∧
  (∀ s : State, s.link.assembler = .hunt → exec .gapTimerExpiry s = .next s) ∧
  (∀ s : State, s.link.assembler ≠ .hunt → s.link.owed < 32 → exec .gapTimerExpiry s =
    .next { s with link := { s.link with assembler := .hunt, service := s.link.service ++ [.linkErr .truncated] } }) ∧
  (∀ s : State, s.link.assembler ≠ .hunt → 32 ≤ s.link.owed → exec .gapTimerExpiry s =
    .next { s with link := s.link.overrun })

/-- A frame sent byte by byte to a hunting assembler with room in the buffer joins the order of service as the request it spells, and
changes nothing else (R174, R175, R177). -/
def Obligations.FrameReceivedBecomesRequest : Prop :=
  ∀ (s : State) (kind : Byte) (body : Body), s.link.assembler = .hunt → body.length ≤ 249 →
    s.link.buffered + (body.length + 5) ≤ 512 →
    Host.Core.run Sys2Proof.core (body.length + 5)
      ({ s with pending := (frameBytes kind body).map (fun b => Instr.receiveByte b true) } : State) =
    .next ({ s with pending := [], link := { s.link with service := s.link.service ++ [.request kind body] } } : State)

/-- A LINK_ERR at the head of the order of service is sent with kind 0xFF and the count unchanged; an unlisted kind is answered
UNKNOWN_KIND, with its kind raised by 0x80 where it lies below 0x80 (R177, R178, R179). With no LINK_ERR at the head SERVE_LINK_ERR changes
nothing (log 7: the model's choice). A request that finds another place of the order of service at its head joins the tail; one that does
not fit the buffer overruns it (log 3: how a request given without its bytes stands to the buffer is the model's choice; the order of
service is R177's). -/
def Obligations.ServedInOrder : Prop :=
  (∀ (s : State) (e : LinkErr) (rest : List Service), s.link.service = .linkErr e :: rest → exec .serveLinkErr s =
    .next (State.replied { s with link := { s.link with service := rest } } 0xFF
      (match e with
       | .badCheck => 0x01
       | .truncated => 0x02
       | .overrun => 0x03))) ∧
  (∀ s : State, (∀ e rest, s.link.service ≠ .linkErr e :: rest) → exec .serveLinkErr s = .next s) ∧
  (∀ (s : State) (kind : Byte) (body : Body), kind ∉ requestKindCodes → s.link.serves kind body = true →
    exec (.unknownKind kind body) s =
      .next (s.beginService.replied (if kind.toNat < 0x80 then kind + 0x80 else kind) 0x12)) ∧
  (∀ (i : Instr) (k : RequestKind) (body : Body) (s : State), requestOf i = some (k, body) →
     s.link.serves k.code body = false →
     (s.link.buffered + (body.length + 5) ≤ 512 → exec i s =
       .next { s with link := { s.link with service := s.link.service ++ [.request k.code body] } }) ∧
     (512 < s.link.buffered + (body.length + 5) → exec i s = .next { s with link := s.link.overrun }))

/-- A request whose body has not the length of its kind is answered BAD_LENGTH and changes nothing (R178). A reply carries the request's
kind with 0x80 added, the result's code, the action count as it is left, and the fields; `answered` is the state with such a reply sent
(R178, R179, R180). The codes are those of the tables of request kinds and of result codes. A request may be served where nothing waits or
where it stands at the head of the order of service (log 3: the model's choice), which it leaves as its service begins (R177). -/
def Obligations.WrongLengthRefused : Prop :=
  (∀ (i : Instr) (k : RequestKind) (body : Body) (n : Nat) (s : State), requestOf i = some (k, body) →
    k.bodyLength = some n → body.length ≠ n → s.link.serves k.code body = true →
    exec i s = .next (s.beginService.answered k .badLength [])) ∧
  (∀ (s : State) (k : RequestKind) (r : Result) (fields : List Byte),
    let counted := (r = .ok ∨ r = .clamped ∨ r = .deferred) ∧ k ∉ [.ident, .jobQuery, .canisterQuery, .lineQuery, .reset]
    let n := if counted then (if 63 ≤ s.link.actionCount then 1 else s.link.actionCount + 1) else s.link.actionCount
    s.answered k r fields = { s with link := { s.link with
      actionCount := n
      reply := some { kind := k.code + 0x80, code := r.code, count := n, fields := fields } } }) ∧
  (∀ (l : Link) (kind : Byte) (body : Body), l.serves kind body = true ↔
    l.service = [] ∨ ∃ rest, l.service = .request kind body :: rest) ∧
  (∀ s : State, s.beginService = { s with link := { s.link with service := s.link.service.tail } }) ∧
  ([RequestKind.ident, .order, .cancel, .jobQuery, .release, .canisterSet, .canisterState, .refill, .canisterQuery, .stockLoad,
    .stockSet, .lineSet, .lineMode, .lineResume, .clearFault, .lineQuery, .fetch, .reset].map (·.code) =
   [0x01, 0x10, 0x11, 0x12, 0x13, 0x20, 0x21, 0x22, 0x23, 0x30, 0x31, 0x40, 0x41, 0x42, 0x43, 0x44, 0x50, 0x7F] ∧
   requestKindCodes =
   [0x01, 0x10, 0x11, 0x12, 0x13, 0x20, 0x21, 0x22, 0x23, 0x30, 0x31, 0x40, 0x41, 0x42, 0x43, 0x44, 0x50, 0x7F]) ∧
  [Result.ok, .clamped, .deferred, .badLength, .badField, .unknownKind, .dupTag, .noJob, .tableFull, .noColourant, .insufficient,
    .overload, .tooLate, .wrongState, .asleep, .estopActive, .occupied, .declined].map (·.code) =
   [0x00, 0x01, 0x02, 0x10, 0x11, 0x12, 0x20, 0x21, 0x22, 0x23, 0x24, 0x25, 0x26, 0x30, 0x31, 0x32, 0x33, 0x34]

/-- IDENT and the three other queries change nothing, are not counted, and answer the figures of R181, the job record, the canister
record and the line's state, each field in its order and its width (R23, R59, R164, R179, R181). The byte of a job's class is a free value
(log 13: R23 gives the field no codes). Free, running, available and dispensable stand as SelectionFollowsRanks spells them. A tag of 0 and
an index above 15 are refused BAD_FIELD 1 (R52; the tag by the Order Table's text before R19). -/
def Obligations.QueriesAnswerAndChangeNothing : Prop :=
  (∀ s : State, s.link.serves RequestKind.ident.code [] = true → exec (.ident []) s =
    .next { s.beginService with link := { s.beginService.link with
      reply := some { kind := 0x81, code := 0x00, count := s.link.actionCount,
                      fields := [0x10, 0x18, 1, 32, 16, 4, 64] } } }) ∧
  (∀ (s : State) (h l : Byte) (j : Job), s.link.serves RequestKind.jobQuery.code [h, l] = true → beNat [h, l] ≠ 0 →
    s.findJob (beNat [h, l]) = some j → exec (.jobQuery [h, l]) s =
    .next { s.beginService with link := { s.beginService.link with
      reply := some { kind := 0x92, code := 0x00, count := s.link.actionCount, fields := j.bytes } } }) ∧
  (∀ (s : State) (h l : Byte), s.link.serves RequestKind.jobQuery.code [h, l] = true → beNat [h, l] = 0 →
    exec (.jobQuery [h, l]) s = .next (s.beginService.answered .jobQuery .badField [1, 0])) ∧
  (∀ (s : State) (i : Byte), s.link.serves RequestKind.canisterQuery.code [i] = true → 16 ≤ i.toNat →
    exec (.canisterQuery [i]) s = .next (s.beginService.answered .canisterQuery .badField [1, 0])) ∧
  (∀ (s : State) (h l : Byte), s.link.serves RequestKind.jobQuery.code [h, l] = true → beNat [h, l] ≠ 0 →
    s.findJob (beNat [h, l]) = none → exec (.jobQuery [h, l]) s = .next (s.beginService.answered .jobQuery .noJob [])) ∧
  (∀ (s : State) (i : Byte) (c : CanisterId), s.link.serves RequestKind.canisterQuery.code [i] = true → i.toNat = c.val →
    exec (.canisterQuery [i]) s =
    .next { s.beginService with link := { s.beginService.link with
      reply := some { kind := 0xA3, code := 0x00, count := s.link.actionCount, fields := s.canisterFields c } } }) ∧
  (∀ s : State, s.link.serves RequestKind.lineQuery.code [] = true → exec (.lineQuery []) s =
    .next { s.beginService with link := { s.beginService.link with
      reply := some { kind := 0xC4, code := 0x00, count := s.link.actionCount, fields := s.lineFields } } }) ∧
  (∀ (s : State) (j : Job) (c : CanisterId), j.bytes.length = 40 + 19 * j.doses.length ∧ (s.canisterFields c).length = 29 ∧
    s.lineFields.length = 107) ∧
  (let n1 := fun n : Nat => ([BitVec.ofNat 8 n] : List Byte)
   let n2 := fun n : Nat => ([BitVec.ofNat 8 (n / 256), BitVec.ofNat 8 n] : List Byte)
   let n4 := fun n : Nat => ([BitVec.ofNat 8 (n / 16777216), BitVec.ofNat 8 (n / 65536), BitVec.ofNat 8 (n / 256),
     BitVec.ofNat 8 n] : List Byte)
   let flag := fun b : Bool => ([if b then 1 else 0] : List Byte)
   let jobCode := fun x : JobState => match x with
     | .queued => 1
     | .dosing => 2
     | .parked _ _ => 3
     | .dosed => 4
     | .mixing => 5
     | .mixed => 6
     | .lidding => 7
     | .done => 8
     | .failed _ => 9
     | .cancelled => 10
   let modeCode := fun m : LineMode => match m with
     | .run => 1
     | .quiet => 2
     | .standby => 3
     | .sleep => 4
     | .waking => 5
     | .halted => 6
   let tagOf := fun t : Option Tag => n2 (t.getD 0)
   let lane := fun l : List Tag => n2 (l.getD 0 0) ++ n2 (l.getD 1 0) ++ n2 (l.getD 2 0)
   let mixer := fun x : Mixer =>
     n1 (match x.state with
       | .idle => 1
       | .loading => 2
       | .running _ => 3
       | .reclamp => 4
       | .unloading => 5
       | .holding => 6
       | .fault => 7) ++ tagOf x.tag ++ n4 x.cycleCount
   let drive := fun d : Drive =>
     n1 (match d.state with
       | .idle => 1
       | .dosing _ => 2
       | .stirring _ _ => 3
       | .faulted _ => 4) ++ n4 d.stirClock ++ flag d.stale ++
     n1 (match d.state with
       | .faulted .dose => 1
       | .faulted .stir => 2
       | _ => 0)
   (∀ j : Job, j.bytes = n2 j.tag ++ [Config.classCode j.cls] ++ n1 j.size.val ++ n1 j.base.val ++ n1 j.strength ++ flag j.notify ++
     flag j.lidSkip ++ n2 (j.mixOverride.getD 0) ++ n1 (jobCode j.state) ++
     n1 (match j.state with
       | .parked .preempt _ => 1
       | .parked .waitColourant _ => 2
       | _ => 0) ++
     n4 (match j.state with
       | .parked _ n => n
       | _ => 0) ++
     flag j.cancelPending ++ n1 (if j.verdict = .outOfTol then 1 else 0) ++
     n1 (match j.state with
       | .failed .mixFault => 1
       | .failed .lidFault => 2
       | _ => 0) ++
     n4 j.admission ++ n4 j.admitted.toNat ++
     n4 (match j.finish with
       | some f => f.number
       | none => 0) ++
     n4 (match j.finish with
       | some f => f.time.toNat
       | none => 0) ++
     n1 (match j.mixerUsed with
       | some .m0 => 0
       | some .m1 => 1
       | none => 255) ++
     n1 j.mixAttempts ++ n1 j.lidAttempts ++ n1 j.dropped ++ n1 j.doses.length ++
     j.doses.flatMap (fun d => n1 d.code ++ n4 d.merged ++ n1 d.canister.val ++ n4 d.steps ++ n4 d.delivered ++ n4 d.topUp ++
       n1 (match d.verdict with
         | .none => 0
         | .inTol => 1
         | .under => 2
         | .over => 3))) ∧
   (∀ (s : State) (c : CanisterId),
     let k := s.canister c
     s.canisterFields c = n1 c.val ++ n1 (if c.val < 8 then 0 else 1) ++ n1 k.code ++ n2 k.density ++ n4 k.usable ++ n4 k.reserved ++
       n4 k.lowMark ++ n4 (s.free c) ++
       n1 (match k.state with
         | .ready => 1
         | .low => 2
         | .short _ => 3
         | .check => 4
         | .offline => 5) ++
       n1 (match k.state with
         | .short .float => 1
         | .short .belowReserved => 2
         | _ => 0) ++
       flag k.tripped ++ n1 k.missCount ++ flag k.offlinePending ++ flag (s.running c) ++ flag (s.available c) ++
       flag (s.dispensable c)) ∧
   (∀ s : State,
     let g := s.line.settings
     s.lineFields = n1 (modeCode s.line.mode) ++ n1 (if s.line.working = .run then 1 else 2) ++
       n1 (match s.line.saved with
         | some m => modeCode m
         | none => 0) ++
       flag s.line.estop ++ n2 s.line.idle.elapsed ++ n4 s.line.clock.toNat ++
       n1 g.stirInterval ++ n2 g.stirDuration ++ flag g.heartbeat ++ n1 g.tolerance ++ n2 g.idleTimeout ++
       n1 g.loadLimits[0] ++ n1 g.loadLimits[1] ++ n1 g.loadLimits[2] ++ n1 g.loadLimits[3] ++ flag g.notifyAll ++
       [1, 2, 3, 4, 5, 6, 7, 8, 9, 10].flatMap (fun x => n1 (s.orders.jobs.filter (fun j => jobCode j.state = x)).length) ++
       n1 (match s.station.state with
         | .empty => 1
         | .tareWait => 2
         | .drawing => 3
         | .unparking => 4
         | .weighing _ => 5
         | .dosing => 6
         | .waitDrive => 7
         | .parking => 8
         | .discharging => 9
         | .held => 10
         | .rejecting => 11
         | .blocked => 12
         | .stray => 13) ++ tagOf s.station.job ++
       s.rack.shelves.toList.flatMap (fun x => match x with
         | .free => n1 0 ++ n2 0
         | .claimedPark t => n1 1 ++ n2 t
         | .holding t => n1 2 ++ n2 t
         | .claimedUnpark t => n1 3 ++ n2 t) ++
       n1 (s.rack.shelves.toList.filter (fun x => x ≠ .free)).length ++
       lane s.mixers.lane ++ flag s.mixers.heldPlace ++ mixer s.mixers.m0 ++ mixer s.mixers.m1 ++
       lane s.press.lane ++ n1 s.press.heldPlaces ++
       n1 (match s.press.state with
         | .idle => 1
         | .waitLid _ => 2
         | .seating _ => 3
         | .reseating => 4
         | .ejecting _ => 5
         | .fault => 6) ++ tagOf s.press.tag ++
       n1 (match s.press.state with
         | .waitLid .first => 1
         | .waitLid .retry => 2
         | _ => 0) ++ n1 s.press.failures ++
       drive s.drives.a ++ drive s.drives.b ++ s.magazines.tins.toList.flatMap n1 ++ s.magazines.lids.toList.flatMap n1 ++
       n1 s.reports.queue.length ++ n1 s.reports.overflow))

/-- FETCH takes the k oldest records, k the smaller of n and the depth, reads and clears the overflow count, and answers both with the
depth that remains; n is brought into 1 to 8 (R170). A record is sent as its kind, its detail, its subject, its value and its time, most
significant byte first (the layout of the report record; the kinds of R166). -/
def Obligations.FetchTakesOldestRecords : Prop :=
  (∀ (s : State) (b : Byte), s.link.serves RequestKind.fetch.code [b] = true →
    let n := if b.toNat = 0 then 1 else if 8 < b.toNat then 8 else b.toNat
    let q := s.reports.queue
    exec (.fetch [b]) s = .next (State.answered
      { s.beginService with
        reports := { queue := q.drop n, overflow := 0 },
        link := { s.beginService.link with attn := (q.drop n).any (·.urgent) } }
      .fetch (if b.toNat = 0 ∨ 8 < b.toNat then .clamped else .ok)
      (enc1 (min n q.length) ++ enc1 s.reports.overflow ++ enc1 (q.length - n) ++ (q.take n).flatMap (·.record.bytes)))) ∧
  (∀ r : Record, r.bytes =
    [(match r.kind with
      | .jobDone => 0x01
      | .jobFailed => 0x02
      | .jobCancelled => 0x03
      | .canisterLow => 0x10
      | .canisterShort => 0x11
      | .canisterCheck => 0x12
      | .manifoldStale => 0x13
      | .manifoldFault => 0x14
      | .mixerFault => 0x20
      | .pressFault => 0x21
      | .stockOut => 0x22
      | .strayLoad => 0x23
      | .stationBlocked => 0x24
      | .estop => 0x30
      | .mode => 0x31
      | .jobParked => 0x32),
     BitVec.ofNat 8 r.detail, BitVec.ofNat 8 (r.subject / 256), BitVec.ofNat 8 r.subject,
     BitVec.ofNat 8 (r.value / 16777216), BitVec.ofNat 8 (r.value / 65536), BitVec.ofNat 8 (r.value / 256), BitVec.ofNat 8 r.value,
     BitVec.ofNat 8 (r.time.toNat / 16777216), BitVec.ofNat 8 (r.time.toNat / 65536), BitVec.ofNat 8 (r.time.toNat / 256),
     BitVec.ofNat 8 r.time.toNat])

/-- A posted record carries the kind, the detail, the subject and the value given and the line clock as its time; its mark is urgent for the
kinds CANISTER_LOW to ESTOP, never for MODE and JOB_PARKED, and as the poster says for the end of a job, which FinishingAJob states (R166,
R167); ATTN then stands exactly while an urgent record is held (R171). Below depth 64 the record goes to the tail (R166). Into a queue of
depth 64: a record that is not urgent is discarded; an urgent one displaces the non-urgent record nearest the head, the others closing up,
and goes to the tail; into 64 urgent records it is discarded. Each loss raises the overflow count, which stays at 255 (R168, R169). -/
def Obligations.FullQueuePosting : Prop :=
  (∀ (s : State) (notify : Bool) (kind : ReportKind) (detail subject value : Nat),
    let urgent := match kind with
      | .jobDone | .jobFailed | .jobCancelled => notify
      | .canisterLow | .canisterShort | .canisterCheck | .manifoldStale | .manifoldFault | .mixerFault | .pressFault | .stockOut
      | .strayLoad | .stationBlocked | .estop => true
      | .mode | .jobParked => false
    let e : Entry :=
      { record := { kind := kind, detail := detail, subject := subject, value := value, time := s.line.clock }, urgent := urgent }
    s.postAs notify kind detail subject value = { s with
      reports := s.reports.add e
      link := { s.link with attn := (s.reports.add e).queue.any (·.urgent) } } ∧
    s.post kind detail subject value = s.postAs false kind detail subject value) ∧
  (∀ (r : Reports) (e : Entry), r.queue.length < 64 → r.add e = { queue := r.queue ++ [e], overflow := r.overflow }) ∧
  ∀ (r : Reports) (e : Entry), r.queue.length = 64 →
    (e.urgent = false → r.add e = { queue := r.queue, overflow := if 255 ≤ r.overflow then 255 else r.overflow + 1 }) ∧
    (∀ (before after : List Entry) (old : Entry), e.urgent = true → r.queue = before ++ old :: after → old.urgent = false →
      (∀ x ∈ before, x.urgent = true) →
      r.add e = { queue := before ++ after ++ [e], overflow := if 255 ≤ r.overflow then 255 else r.overflow + 1 }) ∧
    (e.urgent = true → (∀ x ∈ r.queue, x.urgent = true) →
      r.add e = { queue := r.queue, overflow := if 255 ≤ r.overflow then 255 else r.overflow + 1 })

/-! ## Orders and the Dose Calculator -/

/-- The checks of an ORDER in their order: the length (R13), the line mode (R14), the fields (R15), the tag and the table (R16), and the
Dose Calculator's: merged lines of no steps are dropped (R28), the load limit is met or OVERLOAD is answered (R29), and the first dose
without a candidate canister is answered INSUFFICIENT or NO_COLOURANT with its line (R30, R32). The length test fails exactly a body of
fewer than 9 bytes or of another length than 9 + 3n, n its ninth byte (R13); the fields of a body that passes stand at the offsets of the
ORDER layout; and the field check names the first field that fails, by its limits and in the order of R15, the lines in the order sent and
a line's code before its amount. -/
def Obligations.OrderChecksInSeries : Prop :=
  (∀ body : Body, parseOrder body = none ↔ body.length < 9 ∨ body.length ≠ 9 + 3 * (body.getD 8 0).toNat) ∧
  (∀ (t1 t0 z b st f m1 m0 n : Byte) (rest : List Byte) (o : OrderBody),
    parseOrder (t1 :: t0 :: z :: b :: st :: f :: m1 :: m0 :: n :: rest) = some o →
      o.tag = t1.toNat * 256 + t0.toNat ∧ o.size = z.toNat ∧ o.base = b.toNat ∧ o.strength = st.toNat ∧ o.flags = f ∧
      o.mix = m1.toNat * 256 + m0.toNat ∧ o.count = n.toNat ∧ o.lines.length = n.toNat ∧
      ∀ i < n.toNat, o.lines[i]? =
        some ((rest.getD (3 * i) 0).toNat, (rest.getD (3 * i + 1) 0).toNat * 256 + (rest.getD (3 * i + 2) 0).toNat)) ∧
  (∀ o : OrderBody,
    let good := fun x : Nat × Nat => 1 ≤ x.1 ∧ x.1 ≤ 250 ∧ 1 ≤ x.2 ∧ x.2 ≤ 60000
    let reserved := ∃ i, 3 ≤ i ∧ i < 8 ∧ o.flags.getLsbD i = true
    let head := o.tag ≠ 0 ∧ o.size ≤ 4 ∧ o.base ≤ 3 ∧ 10 ≤ o.strength ∧ o.strength ≤ 200 ∧ ¬ reserved
    (o.tag = 0 → o.fieldError = some (1, 0)) ∧
    (o.tag ≠ 0 → 4 < o.size → o.fieldError = some (2, 0)) ∧
    (o.tag ≠ 0 → o.size ≤ 4 → 3 < o.base → o.fieldError = some (3, 0)) ∧
    (o.tag ≠ 0 → o.size ≤ 4 → o.base ≤ 3 → o.strength < 10 ∨ 200 < o.strength → o.fieldError = some (4, 0)) ∧
    (o.tag ≠ 0 → o.size ≤ 4 → o.base ≤ 3 → 10 ≤ o.strength → o.strength ≤ 200 → reserved → o.fieldError = some (5, 0)) ∧
    (head → 8 < o.count → o.fieldError = some (7, 0)) ∧
    (∀ before code amount after, head → o.count ≤ 8 → o.lines = before ++ (code, amount) :: after → (∀ x ∈ before, good x) →
      (code = 0 ∨ 250 < code → o.fieldError = some (8, before.length + 1)) ∧
      (1 ≤ code → code ≤ 250 → amount = 0 ∨ 60000 < amount → o.fieldError = some (9, before.length + 1))) ∧
    (head → o.count ≤ 8 → (∀ x ∈ o.lines, good x) → o.fieldError = none)) ∧
  ∀ (s : State) (body : Body), s.link.serves RequestKind.order.code body = true →
    (parseOrder body = none → exec (.order body) s = .next (s.beginService.answered .order .badLength [])) ∧
    (∀ o, parseOrder body = some o →
      (s.line.mode = .sleep → exec (.order body) s = .next (s.beginService.answered .order .asleep [])) ∧
      (∀ field line, s.line.mode ≠ .sleep → o.fieldError = some (field, line) → exec (.order body) s =
        .next (s.beginService.answered .order .badField (enc1 field ++ enc1 line))) ∧
      (s.line.mode ≠ .sleep → o.fieldError = none → (∃ j ∈ s.orders.jobs, j.tag = o.tag ∧ j.finished = false) →
        exec (.order body) s = .next (s.beginService.answered .order .dupTag [])) ∧
      (s.line.mode ≠ .sleep → o.fieldError = none → (∀ j ∈ s.orders.jobs, j.tag = o.tag → j.finished = true) →
        (32 ≤ (s.orders.jobs.filter (fun j => !j.finished)).length ∨ 4294967295 ≤ s.orders.admissionCounter) →
        exec (.order body) s = .next (s.beginService.answered .order .tableFull [])) ∧
      (s.line.mode ≠ .sleep → o.fieldError = none → (∀ j ∈ s.orders.jobs, j.tag = o.tag → j.finished = true) →
        (s.orders.jobs.filter (fun j => !j.finished)).length < 32 → s.orders.admissionCounter < 4294967295 →
        let volume := Config.volume (Fin.ofNat 5 o.size)
        let limit := s.line.settings.loadLimits[(Fin.ofNat 4 o.base : Base)]
        let kept := ((mergeLines [] 1 o.lines).map (fun m => (m, stepsOf m.amount volume o.strength))).filter (fun x => x.2 ≠ 0)
        let total := (kept.map (·.2)).sum
        let candidate := fun (code steps : Nat) (c : CanisterId) => (s.canister c).code = code ∧
          ((s.canister c).state = .ready ∨ (s.canister c).state = .low) ∧
          (∀ d, (s.drive (manifoldOf c)).state ≠ .faulted d) ∧ steps ≤ s.free c
        (volume * limit < total * 5 → exec (.order body) s =
          .next (s.beginService.answered .order .overload (enc4 total ++ enc4 (volume * limit / 5)))) ∧
        (∀ before m steps after, total * 5 ≤ volume * limit → kept = before ++ (m, steps) :: after →
          (∀ x ∈ before, ∃ c, candidate x.1.code x.2 c) → (∀ c, ¬ candidate m.code steps c) →
          ((∃ c, (s.canister c).code = m.code) → exec (.order body) s =
            .next (s.beginService.answered .order .insufficient ([0] ++ enc1 m.line))) ∧
          ((∀ c, (s.canister c).code ≠ m.code) → exec (.order body) s =
            .next (s.beginService.answered .order .noColourant ([0] ++ enc1 m.line))))))

/-- An admitted ORDER raises the admission counter, adds each dose's steps to its canister's reserved steps and to nothing else's, writes
the new record with its number and time, and answers the doses, the dropped count and the total (R18, R33). The new record holds the
admission values of R2, its mix override absent for 0 and otherwise brought into 30 to 600 (R15). A record of the same tag is discarded;
where no slot is then free the finished record with the lowest finish number is reclaimed (R18). A line in STANDBY enters WAKING with its
idle timer stopped at 0, a line in any other mode stays in it (R14, R156, R157). What the Dose Calculator returns, where the load limit is
met and every line with steps has a candidate canister, is a dose for each line with steps in merged order, each on the candidate with the
most free steps, of two such the one of lower index, and the number of lines dropped (R28, R30, R31). -/
def Obligations.OrderAdmission : Prop :=
  (∀ (s : State) (body : Body) (o : OrderBody) (doses : List Dose) (dropped : Nat),
    s.link.serves RequestKind.order.code body = true → parseOrder body = some o → s.line.mode ≠ .sleep →
    o.fieldError = none → (∀ j ∈ s.orders.jobs, j.tag = o.tag → j.finished = true) → s.tableFull = false →
    s.calculate o (Fin.ofNat 5 o.size) (Fin.ofNat 4 o.base) = .admitted doses dropped →
    ∃ t, exec (.order body) s = .next t ∧
      t.orders.admissionCounter = s.orders.admissionCounter + 1 ∧
      (∀ c : CanisterId, (t.canister c).reserved =
        (s.canister c).reserved + ((doses.filter (fun d => d.canister = c)).map (·.steps)).sum) ∧
      (∃ j ∈ t.orders.jobs, j.tag = o.tag ∧ j.admission = s.orders.admissionCounter + 1 ∧ j.admitted = s.line.clock ∧
        j.finish = none ∧ j.dropped = dropped ∧
        j.doses.map (fun d => (d.code, d.merged, d.canister, d.steps)) =
          doses.map (fun d => (d.code, d.merged, d.canister, d.steps))) ∧
      t.link.reply = some
        { kind := 0x90
          code := if o.mixClamped then 0x01 else 0x00
          count := if 63 ≤ s.link.actionCount then 1 else s.link.actionCount + 1
          fields := doses.flatMap (fun d => enc1 d.code ++ enc1 d.canister.val ++ enc4 d.steps) ++ enc1 dropped
            ++ enc4 ((doses.map (·.steps)).sum) } ∧
      (s.line.mode = .standby → t.line.mode = .waking ∧ t.line.idle = { elapsed := 0, running := false }) ∧
      (s.line.mode ≠ .standby → t.line.mode = s.line.mode) ∧
      ∃ u : State, t = u.conclude.answered .order (if o.mix ≠ 0 ∧ (o.mix < 30 ∨ 600 < o.mix) then .clamped else .ok)
          (doses.flatMap (fun d => enc1 d.code ++ enc1 d.canister.val ++ enc4 d.steps) ++ enc1 dropped
            ++ enc4 ((doses.map (·.steps)).sum)) ∧
        u.orders.admissionCounter = s.orders.admissionCounter + 1 ∧ u.orders.finishCounter = s.orders.finishCounter ∧
        (∀ c : CanisterId, u.canister c = { s.canister c with reserved :=
          (s.canister c).reserved + ((doses.filter (fun d => d.canister = c)).map (·.steps)).sum }) ∧
        u = { s.beginService with orders := u.orders, bank := u.bank } ∧
        ∃ room : List Job,
          u.orders.jobs = room ++
            [{ tag := o.tag, cls := if o.flags.getLsbD 0 then .rush else .normal, size := Fin.ofNat 5 o.size,
               base := Fin.ofNat 4 o.base, strength := o.strength, notify := o.flags.getLsbD 1, lidSkip := o.flags.getLsbD 2,
               mixOverride :=
                 if o.mix = 0 then none else some (if o.mix < 30 then 30 else if 600 < o.mix then 600 else o.mix),
               doses := doses, dropped := dropped, state := .queued, cancelPending := false, verdict := .inTol,
               admission := s.orders.admissionCounter + 1, admitted := s.line.clock, finish := none, mixerUsed := none,
               mixAttempts := 0, lidAttempts := 0 }] ∧
          (let others := s.orders.jobs.filter (fun j => j.tag ≠ o.tag)
           let number := fun j : Job => match j.finish with
             | some f => f.number
             | none => 0
           (others.length < 32 → room = others) ∧
           (∀ old ∈ others, 32 ≤ others.length → old.finished = true →
             (∀ k ∈ others, k.finished = true → k ≠ old → number old < number k) →
             room = others.filter (fun j => j.tag ≠ old.tag)))) ∧
  (∀ (s : State) (o : OrderBody) (size : Size) (base : Base),
    let volume := Config.volume size
    let limit := s.line.settings.loadLimits[base]
    let merged := mergeLines [] 1 o.lines
    let kept := (merged.map (fun m => (m, stepsOf m.amount volume o.strength))).filter (fun x => x.2 ≠ 0)
    let candidate := fun (code steps : Nat) (c : CanisterId) => (s.canister c).code = code ∧
      ((s.canister c).state = .ready ∨ (s.canister c).state = .low) ∧
      (∀ d, (s.drive (manifoldOf c)).state ≠ .faulted d) ∧ steps ≤ s.free c
    (kept.map (·.2)).sum * 5 ≤ volume * limit → (∀ x ∈ kept, ∃ c, candidate x.1.code x.2 c) →
    ∃ doses, s.calculate o size base = .admitted doses (merged.length - kept.length) ∧
      doses.map (fun d => (d.code, d.merged, d.steps)) = kept.map (fun x => (x.1.code, x.1.amount, x.2)) ∧
      ∀ d ∈ doses, d.delivered = 0 ∧ d.topUp = 0 ∧ d.verdict = .none ∧ candidate d.code d.steps d.canister ∧
        ∀ c, candidate d.code d.steps c → s.free c < s.free d.canister ∨ (s.free c = s.free d.canister ∧ d.canister.val ≤ c.val))

/-- The merged list of a formula: one line for each distinct colourant code, in the order of first appearance, each with the sum of the
amounts sent for its code and linked to the formula line that opened it; at most 8 lines of at most 480,000 for an ORDER's formula
(R26). The steps of a merged line are P / 500,000 rounded to the nearest whole step, with an exact half going up, where P is the product
of the amount, the volume and the strength (R27). -/
def Obligations.FormulaMergedAndScaled : Prop :=
  (∀ amount volume strength : Nat,
    let p := amount * volume * strength
    let n := stepsOf amount volume strength
    n = (p + 250000) / 500000 ∧ 500000 * n ≤ p + 250000 ∧ p + 250000 < 500000 * (n + 1)) ∧
  ∀ lines : List (Nat × Nat),
    let ms := mergeLines [] 1 lines
    (ms.map (·.code)).Nodup ∧ (ms.map (·.line)).Pairwise (· < ·) ∧ (∀ x ∈ lines, x.1 ∈ ms.map (·.code)) ∧
    (∀ m ∈ ms, m.amount = ((lines.filter (fun x => x.1 = m.code)).map (·.2)).sum ∧
      1 ≤ m.line ∧ (∃ a, lines[m.line - 1]? = some (m.code, a)) ∧
      ∀ i < m.line - 1, ∀ x, lines[i]? = some x → x.1 ≠ m.code) ∧
    (lines.length ≤ 8 → (∀ x ∈ lines, 1 ≤ x.2 ∧ x.2 ≤ 60000) → ms.length ≤ 8 ∧ ∀ m ∈ ms, 1 ≤ m.amount ∧ m.amount ≤ 480000)

/-- The canister chosen for a dose is a candidate, no candidate has more free steps, and none with as many has a lower index; where no
canister is chosen there is no candidate. The steps set aside for earlier doses of the ORDER stand out of the free steps (R30, R31). -/
def Obligations.ChosenCanisterIsBest : Prop :=
  ∀ (s : State) (earlier : List Dose) (code steps : Nat),
    (∀ c, s.chooseCanister earlier code steps = some c →
      ((s.canister c).code = code ∧ ((s.canister c).state = .ready ∨ (s.canister c).state = .low) ∧
        (∀ d, (s.drive (manifoldOf c)).state ≠ .faulted d) ∧ steps ≤ s.freeFor earlier c) ∧
      ∀ e, s.candidate earlier code steps e = true →
        s.freeFor earlier e < s.freeFor earlier c ∨ (s.freeFor earlier e = s.freeFor earlier c ∧ c.val ≤ e.val)) ∧
    (s.chooseCanister earlier code steps = none → ∀ e, s.candidate earlier code steps e = false) ∧
    (∀ c, s.freeFor earlier c = s.free c - ((earlier.filter (fun d => d.canister = c)).map (·.steps)).sum)

/-- CANCEL by the state of the job it names: QUEUED is cancelled at once; DOSING and PARKED take the cancel pending flag and DEFERRED,
with nothing further where the flag is set already; DOSED, MIXING, MIXED and LIDDING answer TOO_LATE and a finished job WRONG_STATE, with
nothing changed; a tag that no record carries answers NO_JOB (R19, R20, R21), and a tag of 0 is refused BAD_FIELD 1 (the Order Table's
text before R19). -/
def Obligations.CancelByState : Prop :=
  (∀ (s : State) (t : Tag) (j : Job), (s.findJob t = some j → j ∈ s.orders.jobs ∧ j.tag = t) ∧
    (s.findJob t = none ↔ ∀ k ∈ s.orders.jobs, k.tag ≠ t)) ∧
  (∀ (s : State) (h l : Byte), s.link.serves RequestKind.cancel.code [h, l] = true → beNat [h, l] = 0 →
    exec (.cancel [h, l]) s = .next (s.beginService.answered .cancel .badField [1, 0])) ∧
  ∀ (s : State) (h l : Byte), s.link.serves RequestKind.cancel.code [h, l] = true → beNat [h, l] ≠ 0 →
    (s.findJob (beNat [h, l]) = none → exec (.cancel [h, l]) s = .next (s.beginService.answered .cancel .noJob [])) ∧
    (∀ j, s.findJob (beNat [h, l]) = some j →
      (j.state = .queued → exec (.cancel [h, l]) s =
        .next ((s.beginService.finishJob j.tag .cancelled).conclude.answered .cancel .ok [])) ∧
      ((j.state = .dosing ∨ ∃ r n, j.state = .parked r n) → j.cancelPending = true → exec (.cancel [h, l]) s =
        .next (s.beginService.answered .cancel .deferred [])) ∧
      ((j.state = .dosing ∨ ∃ r n, j.state = .parked r n) → j.cancelPending = false → exec (.cancel [h, l]) s =
        .next (State.answered (State.conclude { s.beginService with orders := { s.orders with
          jobs := s.orders.jobs.map (fun k =>
            if k.tag = j.tag ∧ k.finished = false then { k with cancelPending := true } else k) } }) .cancel .deferred [])) ∧
      (j.state = .dosed ∨ j.state = .mixing ∨ j.state = .mixed ∨ j.state = .lidding → exec (.cancel [h, l]) s =
        .next (s.beginService.answered .cancel .tooLate [])) ∧
      (j.finished = true → exec (.cancel [h, l]) s = .next (s.beginService.answered .cancel .wrongState [])))

/-- RELEASE frees the slot of a finished record and answers WRONG_STATE for an unfinished job, whose record it leaves; a tag that no
record carries answers NO_JOB (R22), and a tag of 0 is refused BAD_FIELD 1 (the Order Table's text before R19). -/
def Obligations.ReleaseFreesFinishedOnly : Prop :=
  (∀ (s : State) (h l : Byte), s.link.serves RequestKind.release.code [h, l] = true → beNat [h, l] = 0 →
    exec (.release [h, l]) s = .next (s.beginService.answered .release .badField [1, 0])) ∧
  ∀ (s : State) (h l : Byte), s.link.serves RequestKind.release.code [h, l] = true → beNat [h, l] ≠ 0 →
    (s.findJob (beNat [h, l]) = none → exec (.release [h, l]) s = .next (s.beginService.answered .release .noJob [])) ∧
    (∀ j, s.findJob (beNat [h, l]) = some j →
      (j.finished = true → exec (.release [h, l]) s =
        .next (State.answered { s.beginService with orders := { s.orders with
          jobs := s.orders.jobs.filter (fun k => k.tag ≠ j.tag) } } .release .ok [])) ∧
      (j.finished = false → exec (.release [h, l]) s = .next (s.beginService.answered .release .wrongState [])))

/-- Finishing a job: the finish counter rises and gives the finish number, the finished time is the line clock, a CANCELLED job's
outstanding steps leave the reserved steps of their canisters, which are tested for a return to service (R51), and no other canister
changes, every other record stands, and one report is posted, urgent when the job's notify flag or notify-all is set (R11, R167). A job may
finish DONE out of MIXING or LIDDING, FAILED with MIX_FAULT out of MIXING, FAILED with LID_FAULT out of LIDDING, and CANCELLED out of
QUEUED or DOSING (the rows of the transition table before R5 that end in a finished state). That a notice which names no unfinished job,
or one outside the From state of its row, changes nothing is the model's reading (log 22, DEDUCED): R5 says when a notice is acted on, and
that such a notice does not arise. -/
def Obligations.FinishingAJob : Prop :=
  (∀ x fin : JobState, x.mayFinish fin = true ↔
    (x = .mixing ∧ fin = .done) ∨ (x = .lidding ∧ fin = .done) ∨ (x = .mixing ∧ fin = .failed .mixFault) ∨
    (x = .lidding ∧ fin = .failed .lidFault) ∨ (x = .queued ∧ fin = .cancelled) ∨ (x = .dosing ∧ fin = .cancelled)) ∧
  (∀ (s : State) (t : Tag) (j : Job), (s.liveJob t = some j → j ∈ s.orders.jobs ∧ j.tag = t ∧ j.finished = false) ∧
    (s.liveJob t = none ↔ ∀ k ∈ s.orders.jobs, k.tag = t → k.finished = true) ∧
    (j.finished = true ↔ j.state = .done ∨ (∃ r, j.state = .failed r) ∨ j.state = .cancelled)) ∧
  (∀ (s : State) (t : Tag) (fin : JobState), s.liveJob t = none → s.finishJob t fin = s) ∧
  (∀ (s : State) (t : Tag) (j : Job) (fin : JobState), s.liveJob t = some j → j.state.mayFinish fin = false →
    s.finishJob t fin = s) ∧
  (∀ k : Canister,
    ((∀ x, k.state ≠ .short x) → k.retest = k) ∧
    (∀ x, k.state = .short x →
      let after : CanisterState :=
        if k.tripped = true then .short .float
        else if k.usable < k.reserved then .short .belowReserved
        else if k.usable < k.lowMark then .low
        else .ready
      k.retest = { k with state := after })) ∧
  ∀ (s : State) (t : Tag) (j : Job) (fin : JobState), s.liveJob t = some j → j.state.mayFinish fin = true →
    let u := s.finishJob t fin
    let n := s.orders.finishCounter + 1
    u.orders.finishCounter = n ∧ u.orders.admissionCounter = s.orders.admissionCounter ∧
    { j with state := fin, finish := some { number := n, time := s.line.clock } } ∈ u.orders.jobs ∧
    (∀ k ∈ s.orders.jobs, k.live t = false → k ∈ u.orders.jobs) ∧
    (∀ c : CanisterId, u.canister c =
      if fin = .cancelled ∧ ∃ d ∈ j.doses, d.canister = c then
        Canister.retest { s.canister c with reserved := (s.canister c).reserved -
          ((j.doses.filter (fun d => d.canister = c)).map (·.outstanding)).sum }
      else s.canister c) ∧
    u.reports = s.reports.add
      { record :=
          { kind := match fin with
              | .failed _ => .jobFailed
              | .cancelled => .jobCancelled
              | _ => .jobDone
            detail := match fin with
              | .failed .mixFault => 1
              | .failed .lidFault => 2
              | .done => if j.verdict = .outOfTol then 1 else 0
              | _ => 0
            subject := j.tag
            value := match fin with
              | .failed _ => 0
              | _ => (j.doses.map (·.delivered)).sum
            time := s.line.clock }
        urgent := j.notify || s.line.settings.notifyAll } ∧
    u.drives = s.drives ∧ u.station = s.station ∧ u.weigh = s.weigh ∧ u.rack = s.rack ∧ u.mixers = s.mixers ∧
    u.press = s.press ∧ u.magazines = s.magazines ∧ u.line = s.line ∧ u.pending = s.pending ∧
    ∃ a : Bool, u.link = { s.link with attn := a }

/-! ## The Colourant Bank -/

/-- CANISTER_SET: an index above 15 and a code above 250 are refused BAD_FIELD; a canister not OFFLINE or with reserved steps answers
WRONG_STATE; otherwise the four fields are written, brought into their ranges, the miss count becomes 0, and nothing else changes
(R52, R58). -/
def Obligations.CanisterSetDefines : Prop :=
  ∀ (s : State) (i code d1 d0 u3 u2 u1 u0 l3 l2 l1 l0 : Byte),
    let body := [i, code, d1, d0, u3, u2, u1, u0, l3, l2, l1, l0]
    let d := beNat [d1, d0]
    let u := beNat [u3, u2, u1, u0]
    let l := beNat [l3, l2, l1, l0]
    let d' := if d < 800 then 800 else if 2500 < d then 2500 else d
    let u' := if 600000 < u then 600000 else u
    let l' := if 600000 < l then 600000 else l
    s.link.serves RequestKind.canisterSet.code body = true →
    (16 ≤ i.toNat → exec (.canisterSet body) s = .next (s.beginService.answered .canisterSet .badField [1, 0])) ∧
    (∀ c : CanisterId, i.toNat = c.val →
      (250 < code.toNat → exec (.canisterSet body) s = .next (s.beginService.answered .canisterSet .badField [2, 0])) ∧
      (code.toNat ≤ 250 → (s.canister c).state ≠ .offline ∨ 0 < (s.canister c).reserved →
        exec (.canisterSet body) s = .next (s.beginService.answered .canisterSet .wrongState [])) ∧
      (code.toNat ≤ 250 → (s.canister c).state = .offline → (s.canister c).reserved = 0 →
        exec (.canisterSet body) s = .next (State.answered
          (s.beginService.setCanister c { s.canister c with
            code := code.toNat, density := d', usable := u', lowMark := l', missCount := 0 })
          .canisterSet (if d' = d ∧ u' = u ∧ l' = l then .ok else .clamped)
          (enc1 code.toNat ++ enc2 d' ++ enc4 u' ++ enc4 l'))))

/-- CANISTER_STATE by its action: OFFLINE (R53), ONLINE (R55), CLEAR_CHECK (R56), any other action refused BAD_FIELD 2, an index above 15
refused BAD_FIELD 1 (R52). Action ONLINE and CLEAR_CHECK examine the canister in the order of R55's table. That the three rows which share
this kind have one meaning, by the action in the body, is the model's choice (log 4). That OFFLINE is deferred wherever a dose is running on
the canister, one in CHECK included, is read from R53 (log 33). -/
def Obligations.CanisterStateActions : Prop :=
  (∀ (s : State) (i a : Byte), 16 ≤ i.toNat → s.link.serves RequestKind.canisterState.code [i, a] = true →
    let refused := Host.Outcome.next (ρ := Refusal) (φ := Fault) (s.beginService.answered .canisterState .badField [1, 0])
    exec (.canisterStateOffline [i, a]) s = refused ∧ exec (.canisterStateOnline [i, a]) s = refused ∧
      exec (.canisterStateClearCheck [i, a]) s = refused) ∧
  ∀ (s : State) (i a : Byte) (c : CanisterId), i.toNat = c.val →
    s.link.serves RequestKind.canisterState.code [i, a] = true →
    let k := s.canister c
    let b := s.beginService
    let off := exec (.canisterStateOffline [i, a]) s
    let on := exec (.canisterStateOnline [i, a]) s
    let clr := exec (.canisterStateClearCheck [i, a]) s
    let codes := enc1 k.state.code ++ enc1 k.state.causeCode
    let level : CanisterState := if k.usable < k.lowMark then .low else .ready
    (off = on ∧ on = clr) ∧
    (a = 1 →
      (k.state = .offline → off = .next (b.answered .canisterState .ok codes)) ∧
      (k.state ≠ .offline → k.offlinePending = true → off = .next (b.answered .canisterState .deferred codes)) ∧
      (k.state ≠ .offline → k.offlinePending = false → s.running c = false → off =
        .next ((b.setCanister c { k with state := .offline }).conclude.answered .canisterState .ok [5, 0])) ∧
      (k.state ≠ .offline → k.offlinePending = false → s.running c = true → off =
        .next ((b.setCanister c { k with offlinePending := true }).conclude.answered .canisterState .deferred codes))) ∧
    (a = 2 →
      (k.state ≠ .offline ∨ k.offlinePending = true ∨ k.code = 0 → on = .next (b.answered .canisterState .wrongState codes)) ∧
      (k.state = .offline → k.offlinePending = false → k.code ≠ 0 →
        (k.missCount = 3 → on =
          .next ((b.setCanister c { k with state := .check }).conclude.answered .canisterState .ok [4, 0])) ∧
        (k.missCount ≠ 3 → k.tripped = true → on =
          .next (((b.setCanister c { k with state := .short .float, usable := 0 }).post .canisterShort 1 c.val 0).conclude.answered
            .canisterState .ok [3, 1])) ∧
        (k.missCount ≠ 3 → k.tripped = false → k.usable < k.reserved → on =
          .next (((b.setCanister c { k with state := .short .belowReserved }).post .canisterShort 2 c.val k.usable).conclude.answered
            .canisterState .ok [3, 2])) ∧
        (k.missCount ≠ 3 → k.tripped = false → k.reserved ≤ k.usable → on =
          .next ((b.setCanister c { k with state := level }).conclude.answered .canisterState .ok
            [if k.usable < k.lowMark then 2 else 1, 0])))) ∧
    (a = 3 →
      (k.state ≠ .check → clr = .next (b.answered .canisterState .wrongState codes)) ∧
      (k.state = .check → k.tripped = true → clr =
        .next (((b.setCanister c { k with missCount := 0, state := .short .float, usable := 0 }).post
          .canisterShort 1 c.val 0).conclude.answered .canisterState .ok [3, 1])) ∧
      (k.state = .check → k.tripped = false → k.usable < k.reserved → clr =
        .next (((b.setCanister c { k with missCount := 0, state := .short .belowReserved }).post
          .canisterShort 2 c.val k.usable).conclude.answered .canisterState .ok [3, 2])) ∧
      (k.state = .check → k.tripped = false → k.reserved ≤ k.usable → clr =
        .next ((b.setCanister c { k with missCount := 0, state := level }).conclude.answered .canisterState .ok
          [if k.usable < k.lowMark then 2 else 1, 0]))) ∧
    (a ≠ 1 → a ≠ 2 → a ≠ 3 → off = .next (b.answered .canisterState .badField [2, 0]))

/-- REFILL: an index above 15 is refused BAD_FIELD 1 (R52); an amount of 0 or above 600,000 is refused; READY, LOW and CHECK answer
WRONG_STATE and change nothing; an OFFLINE canister's usable steps rise by the amount, up to 600,000; a SHORT one's do and it is tested for
a return to service (R51, R57). -/
def Obligations.RefillAddsSteps : Prop :=
  (∀ (s : State) (i a3 a2 a1 a0 : Byte), 16 ≤ i.toNat → s.link.serves RequestKind.refill.code [i, a3, a2, a1, a0] = true →
    exec (.refill [i, a3, a2, a1, a0]) s = .next (s.beginService.answered .refill .badField [1, 0])) ∧
  ∀ (s : State) (i a3 a2 a1 a0 : Byte) (c : CanisterId), i.toNat = c.val →
    s.link.serves RequestKind.refill.code [i, a3, a2, a1, a0] = true →
    let k := s.canister c
    let n := beNat [a3, a2, a1, a0]
    let u := if 600000 < k.usable + n then 600000 else k.usable + n
    let r : Result := if 600000 < k.usable + n then .clamped else .ok
    let go := exec (.refill [i, a3, a2, a1, a0]) s
    let b := s.beginService
    (n = 0 ∨ 600000 < n → go = .next (b.answered .refill .badField [2, 0])) ∧
    (1 ≤ n → n ≤ 600000 →
      (k.state = .ready ∨ k.state = .low ∨ k.state = .check →
        go = .next (b.answered .refill .wrongState (enc1 k.state.code ++ [0] ++ enc4 k.usable))) ∧
      (k.state = .offline →
        go = .next ((b.setCanister c { k with usable := u }).conclude.answered .refill r ([5, 0] ++ enc4 u))) ∧
      (∀ x, k.state = .short x → k.tripped = true →
        go = .next ((b.setCanister c { k with usable := u, state := .short .float }).conclude.answered .refill r
          ([3, 1] ++ enc4 u))) ∧
      (∀ x, k.state = .short x → k.tripped = false → u < k.reserved →
        go = .next ((b.setCanister c { k with usable := u, state := .short .belowReserved }).conclude.answered .refill r
          ([3, 2] ++ enc4 u))) ∧
      (∀ x, k.state = .short x → k.tripped = false → k.reserved ≤ u → u < k.lowMark →
        go = .next ((b.setCanister c { k with usable := u, state := .low }).conclude.answered .refill r ([2, 0] ++ enc4 u))) ∧
      (∀ x, k.state = .short x → k.tripped = false → k.reserved ≤ u → k.lowMark ≤ u →
        go = .next ((b.setCanister c { k with usable := u, state := .ready }).conclude.answered .refill r ([1, 0] ++ enc4 u))))

/-- A float trip on a canister in service empties its account, puts it SHORT with cause FLOAT, posts CANISTER_SHORT and halts a run on it;
on any other it is recorded, and a SHORT canister stays SHORT with cause FLOAT. A float clear is recorded, and a SHORT canister is tested
for a return to service (R49, R50, R51, R72). That CANISTER_SHORT is posted before the run's end is taken is read from R49 (log 20). -/
def Obligations.FloatEvents : Prop :=
  ∀ (s : State) (c : CanisterId),
    let k := s.canister c
    let short := (s.setCanister c { k with tripped := true, usable := 0, state := .short .float }).post .canisterShort 1 c.val 0
    (k.state = .ready ∨ k.state = .low → s.running c = false → exec (.floatTrip c) s = .next short.conclude) ∧
    (k.state = .ready ∨ k.state = .low → s.running c = true →
      exec (.floatTrip c) s = .next (short.endRun (manifoldOf c) .idle .float).conclude) ∧
    (∀ x, k.state = .short x →
      exec (.floatTrip c) s = .next (s.setCanister c { k with tripped := true, state := .short .float }).conclude) ∧
    (k.state = .check ∨ k.state = .offline →
      exec (.floatTrip c) s = .next (s.setCanister c { k with tripped := true }).conclude) ∧
    (∀ x, k.state = .short x → k.usable < k.reserved →
      exec (.floatClear c) s = .next (s.setCanister c { k with tripped := false, state := .short .belowReserved }).conclude) ∧
    (∀ x, k.state = .short x → k.reserved ≤ k.usable → exec (.floatClear c) s =
      .next (s.setCanister c { k with
        tripped := false, state := if k.usable < k.lowMark then .low else .ready }).conclude) ∧
    ((∀ x, k.state ≠ .short x) → exec (.floatClear c) s = .next (s.setCanister c { k with tripped := false }).conclude)

/-- A run end lowers usable steps by the steps pumped, down to 0, and reserved steps too unless the run was a top-up; a canister in service
compares its usable steps with its low mark, a SHORT one is tested for a return to service; a pending OFFLINE is completed; no other
canister changes (R44, R45, R46, R51, R54). That a READY canister which falls below its low mark posts CANISTER_LOW even where a pending
OFFLINE is completed in the same run end is the model's choice (log 34). A verdict notice of UNDER or OVER raises the miss count up to 3
and one of IN_TOL clears it; the rise to 3 posts CANISTER_CHECK and takes a canister in READY, LOW or SHORT to CHECK (R60, R61). The
station takes a run end: the steps pumped are added to the delivered steps of the run's dose, the round's run on that canister is marked
ended with its pumped count and cause, a halt by E-STOP marks the round interrupted, the bank takes its notice, and the last run's end
starts the settle of a DOSING station that is not halted (R94, R105). A drive that ends its run takes its new state first; one without a
run changes nothing. -/
def Obligations.RunEndAndVerdictNotices : Prop :=
  (∀ (s : State) (c e : CanisterId) (n : Nat) (topUp : Bool),
    let k := s.canister c
    let x := (s.bankRunEnd c n topUp).canister c
    x.usable = k.usable - n ∧ x.reserved = (if topUp then k.reserved else k.reserved - n) ∧ x.offlinePending = false ∧
    (k.offlinePending = true → x.state = .offline) ∧
    (k.offlinePending = false → k.state = .ready ∨ k.state = .low →
      x.state = if k.usable - n < k.lowMark then .low else .ready) ∧
    (k.offlinePending = false → k.state = .check ∨ k.state = .offline → x.state = k.state) ∧
    (∀ y, k.offlinePending = false → k.state = .short y →
      (k.tripped = true → x.state = .short .float) ∧
      (k.tripped = false → x.usable < x.reserved → x.state = .short .belowReserved) ∧
      (k.tripped = false → x.reserved ≤ x.usable → x.state = if x.usable < k.lowMark then .low else .ready)) ∧
    (e ≠ c → (s.bankRunEnd c n topUp).canister e = s.canister e) ∧
    (k.state = .ready → k.usable - n < k.lowMark →
      (s.bankRunEnd c n topUp).reports = (s.post .canisterLow 0 c.val (k.usable - n)).reports) ∧
    (k.state ≠ .ready ∨ k.lowMark ≤ k.usable - n → (s.bankRunEnd c n topUp).reports = s.reports)) ∧
  (∀ (s : State) (c e : CanisterId) (v : DoseVerdict), v ≠ .none →
    let k := s.canister c
    let x := (s.verdictNotice c v).canister c
    (v = .inTol → x = { k with missCount := 0 }) ∧
    (v ≠ .inTol → k.missCount < 2 → x = { k with missCount := k.missCount + 1 }) ∧
    (v ≠ .inTol → k.missCount = 2 → k.state = .offline → x = { k with missCount := 3 }) ∧
    (v ≠ .inTol → k.missCount = 2 → k.state ≠ .offline → x = { k with missCount := 3, state := .check }) ∧
    (v ≠ .inTol → k.missCount = 3 → x = k) ∧
    (e ≠ c → (s.verdictNotice c v).canister e = s.canister e) ∧
    (v ≠ .inTol → k.missCount = 2 →
      (s.verdictNotice c v).reports = (s.post .canisterCheck 0 c.val 0).reports) ∧
    (v = .inTol ∨ k.missCount < 2 ∨ k.missCount = 3 → (s.verdictNotice c v).reports = s.reports)) ∧
  (∀ (s : State) (run : DoseRun) (cause : EndCause),
    let u := s.stationRunEnd run cause
    let banked := s.bankRunEnd run.canister run.pumped run.topUp
    let ended := fun q : Round => ({ q with
      interrupted := q.interrupted || decide (cause = .estop)
      runs := q.runs.map (fun x => if x.canister = run.canister ∧ x.ended = none then
        { x with ended := some { pumped := run.pumped, cause := cause } } else x) } : Round)
    let last := s.station.state = .dosing ∧ s.station.halted = false ∧
      ∃ q, s.station.round = some q ∧ ∀ x ∈ (ended q).runs, x.ended ≠ none
    u.orders = { s.orders with jobs := s.orders.jobs.map (fun j => if j.tag = run.tag ∧ j.finished = false then
      { j with doses := j.doses.map (fun d =>
        if d.code = run.code then { d with delivered := d.delivered + run.pumped } else d) } else j) } ∧
    u.bank = banked.bank ∧ u.reports = banked.reports ∧
    (last → u.station =
      { s.station with round := s.station.round.map ended, state := .weighing .round, transfer := none }) ∧
    (¬ last → u.station = { s.station with round := s.station.round.map ended }) ∧
    u.drives = s.drives ∧ u.weigh = s.weigh ∧ u.rack = s.rack ∧ u.mixers = s.mixers ∧ u.press = s.press ∧
    u.magazines = s.magazines ∧ u.line = s.line ∧ u.pending = s.pending) ∧
  (∀ (s : State) (m : Manifold) (after : DriveState) (cause : EndCause),
    (∀ r, (s.drive m).state = .dosing r →
      s.endRun m after cause = (s.setDrive m { s.drive m with state := after }).stationRunEnd r cause) ∧
    ((∀ r, (s.drive m).state ≠ .dosing r) → s.endRun m after cause = s))

/-! ## Manifold Drives -/

/-- A stir starts on an IDLE drive with a stir due, its halted flag clear, in RUN, QUIET, STANDBY, WAKING, or SLEEP with the heartbeat on,
reading the stir duration, and at no other time (R66, R67, R68). A stir whose elapsed has reached its duration leaves the drive IDLE, the
clock at 0 and the stale flag clear (R69). A clock at the interval and 1,800 s makes a manifold stale once and posts MANIFOLD_STALE (R66).
A completion that finds no such stir changes nothing (log 7: the model's choice). -/
def Obligations.StirsStartAndComplete : Prop :=
  ∀ (s : State) (m : Manifold),
    let d := s.drive m
    let t := s.line.settings
    let allowed := s.line.mode = .run ∨ s.line.mode = .quiet ∨ s.line.mode = .standby ∨ s.line.mode = .waking ∨
      (s.line.mode = .sleep ∧ t.heartbeat = true)
    (d.state = .idle ∧ (t.stirInterval * 60 ≤ d.stirClock ∨ d.stale = true) ∧ d.halted = false ∧ allowed →
      exec (.stirStart m) s = .next (s.setDrive m { d with state := .stirring 0 t.stirDuration })) ∧
    (¬ (d.state = .idle ∧ (t.stirInterval * 60 ≤ d.stirClock ∨ d.stale = true) ∧ d.halted = false ∧ allowed) →
      exec (.stirStart m) s = .next s) ∧
    (∀ e n, d.state = .stirring e n → n ≤ e → exec (.stirComplete m) s =
      .next (s.setDrive m { d with state := .idle, stirClock := 0, stale := false }).conclude) ∧
    ((∀ e n, d.state = .stirring e n → e < n) → exec (.stirComplete m) s = .next s) ∧
    (t.stirInterval * 60 + 1800 ≤ d.stirClock → d.stale = false → exec (.manifoldStale m) s =
      .next ((s.setDrive m { d with stale := true }).post .manifoldStale 0 (if m = .a then 0 else 1) d.stirClock)) ∧
    (d.stirClock < t.stirInterval * 60 + 1800 ∨ d.stale = true → exec (.manifoldStale m) s = .next s)

/-- A step of the pump raises the pumped count of the run in progress by 1; at the steps asked the drive becomes IDLE and the run ends
COMPLETE (R71). A stall faults a drive in motion and posts MANIFOLD_FAULT, a dose run ending STALL; at rest it is ignored (R73). A step
that finds no run changes nothing (log 7: the model's choice). That a stall hands over the run's end before it posts MANIFOLD_FAULT is the
model's choice (log 21). -/
def Obligations.PumpStepsAndStalls : Prop :=
  ∀ (s : State) (m : Manifold),
    let d := s.drive m
    let idx := if m = .a then 0 else 1
    (∀ r, d.state = .dosing r → r.pumped + 1 < r.asked → exec (.pumpStep m) s =
      .next (s.setDrive m { d with state := .dosing { r with pumped := r.pumped + 1 } })) ∧
    (∀ r, d.state = .dosing r → r.asked ≤ r.pumped + 1 → exec (.pumpStep m) s =
      .next ((s.setDrive m { d with state := .idle }).stationRunEnd { r with pumped := r.pumped + 1 } .complete).conclude) ∧
    ((∀ r, d.state ≠ .dosing r) → exec (.pumpStep m) s = .next s) ∧
    (∀ r, d.state = .dosing r → exec (.stall m) s =
      .next (((s.setDrive m { d with state := .faulted .dose }).stationRunEnd r .stall).post .manifoldFault 1 idx 0).conclude) ∧
    (∀ e n, d.state = .stirring e n → exec (.stall m) s =
      .next ((s.setDrive m { d with state := .faulted .stir }).post .manifoldFault 2 idx 0).conclude) ∧
    (d.state = .idle ∨ (∃ x, d.state = .faulted x) → exec (.stall m) s = .next s)

/-- CLEAR_FAULT by its target: a FAULTED drive, a mixer in FAULT and a press in FAULT become IDLE,
the mixer empty and the press with no failures; a target in any other state answers WRONG_STATE and changes nothing; any other target is
refused BAD_FIELD 1 (R75, R134, R147). That the three rows which share this kind have one meaning, by the target in the body, is the model's
choice (log 4). -/
def Obligations.ClearFaultByTarget : Prop :=
  ∀ (s : State) (x : Byte), s.link.serves RequestKind.clearFault.code [x] = true →
    let b := s.beginService
    let go := exec (.clearFaultManifold [x]) s
    let refused := Host.Outcome.next (ρ := Refusal) (φ := Fault) (b.answered .clearFault .wrongState [])
    (exec (.clearFaultMixer [x]) s = go ∧ exec (.clearFaultPress [x]) s = go) ∧
    (∀ m : Manifold, x = (if m = .a then 1 else 2) →
      (∀ f, (s.drive m).state = .faulted f →
        go = .next ((b.setDrive m { s.drive m with state := .idle }).conclude.answered .clearFault .ok [])) ∧
      ((∀ f, (s.drive m).state ≠ .faulted f) → go = refused)) ∧
    (∀ k : MixerId, x = (if k = .m0 then 3 else 4) →
      ((s.mixer k).state = .fault →
        go = .next ((b.setMixer k { s.mixer k with state := .idle, tag := none }).conclude.answered .clearFault .ok [])) ∧
      ((s.mixer k).state ≠ .fault → go = refused)) ∧
    (x = 5 →
      (s.press.state = .fault → go = .next (State.answered
        (State.conclude { b with press := { s.press with state := .idle, failures := 0 } }) .clearFault .ok [])) ∧
      (s.press.state ≠ .fault → go = refused)) ∧
    (x = 0 ∨ 6 ≤ x.toNat → go = .next (b.answered .clearFault .badField [1, 0]))

/-! ## The Dosing Station -/

/-- A reading is kept as the latest and tracked; at an EMPTY, TARE_WAIT or STRAY station a stable platform near the zero retakes the zero,
makes the tare valid and the station EMPTY (R82, R83). A load that has stood 50 g above the zero for 40 s at an EMPTY or TARE_WAIT station
makes it STRAY, the tare invalid, and posts STRAY_LOAD; a reading below that mark restarts the 40 s (R85). The cell is powered in RUN,
QUIET and WAKING, and in HALTED where RUN or QUIET was saved; the platform is stable when the cell has been tracked for 2.5 s and no two
readings of that time differ by more than two counts (R82). How a reading tells its time, which readings the 2.5 s hold, and that the
auto-tare is tested before the stray load are the model's choices (log 12), as is that a reading exactly 5,000 counts from the zero is near
it (log 37); that a reading while the cell is unpowered changes nothing is read from R82, by which none arrives then (log 32). -/
def Obligations.ReadingsTareAndStray : Prop :=
  (∀ s : State, s.cellPowered = true ↔ s.line.mode = .run ∨ s.line.mode = .quiet ∨ s.line.mode = .waking ∨
    (s.line.mode = .halted ∧ (s.line.saved = some .run ∨ s.line.saved = some .quiet))) ∧
  (∀ (w : WeighCell) (count : Int) (ms : Nat),
    w.track count ms = { w with
      latest := count
      window := (0, count) :: (w.window.filter (fun x => x.1 + ms ≤ 2500)).map (fun x => (x.1 + ms, x.2))
      tracked := if 2500 < w.tracked + ms then 2500 else w.tracked + ms }) ∧
  (∀ w : WeighCell, w.stable = true ↔ 2500 ≤ w.tracked ∧ ∀ x ∈ w.window, ∀ y ∈ w.window, x.2 ≤ y.2 + 2) ∧
  (∀ (s : State) (count : Int) (ms : Nat), s.cellPowered = false → exec (.weighReading count ms) s = .next s) ∧
  (∀ (s : State) (count : Int) (ms : Nat), s.cellPowered = true →
    let w := s.weigh.track count ms
    let quiet := w.stable = true ∧ count - s.weigh.zero ≤ 5000 ∧ s.weigh.zero - count ≤ 5000
    let stray := if 5000 ≤ count - s.weigh.zero then
        (match s.weigh.strayMs with
         | none => some 0
         | some t => some (if 40000 < t + ms then 40000 else t + ms))
      else none
    w.latest = count ∧ w.zero = s.weigh.zero ∧
    (s.station.state ≠ .empty → s.station.state ≠ .tareWait → s.station.state ≠ .stray →
      exec (.weighReading count ms) s = .next (State.conclude { s with weigh := { w with strayMs := none } })) ∧
    (s.station.state = .empty ∨ s.station.state = .tareWait ∨ s.station.state = .stray →
      quiet → exec (.weighReading count ms) s = .next (State.conclude { s with
        weigh := { w with zero := count, tareValid := true, window := [], tracked := 0, strayMs := none },
        station := { s.station with state := .empty } })) ∧
    (s.station.state = .stray → ¬ quiet →
      exec (.weighReading count ms) s = .next (State.conclude { s with weigh := { w with strayMs := none } })) ∧
    (s.station.state = .empty ∨ s.station.state = .tareWait → ¬ quiet →
      (stray ≠ some 40000 →
        exec (.weighReading count ms) s = .next (State.conclude { s with weigh := { w with strayMs := stray } })) ∧
      (stray = some 40000 →
        exec (.weighReading count ms) s = .next (State.conclude (State.post
          { s with weigh := { w with tareValid := false, strayMs := none }, station := { s.station with state := .stray } }
          .strayLoad 0 0 ((count - s.weigh.zero) * 10).toNat))))) ∧
  (∀ s : State, s.cellPowered = true → s.station.state = .empty ∨ s.station.state = .tareWait →
    s.weigh.strayMs = some 40000 → exec .strayLoad s =
      .next (State.post { s with weigh := { s.weigh with tareValid := false, strayMs := none },
                                 station := { s.station with state := .stray } }
        .strayLoad 0 0 ((s.weigh.latest - s.weigh.zero) * 10).toNat)) ∧
  (∀ s : State, s.cellPowered = false ∨ (s.station.state ≠ .empty ∧ s.station.state ≠ .tareWait) ∨
    s.weigh.strayMs ≠ some 40000 → exec .strayLoad s = .next s)

/-- The selection takes the first rank that offers a job, and within it the job of the lowest park or admission number (R112, R113). A
PARKED job with its cancel pending is to be retrieved; one without has progress when a dose with steps outstanding has an available
canister; a QUEUED job is drawable when the canister of each of its doses is available and a tin of its size is counted (R112). A RUSH
candidate is a job that rank 2 or rank 3 would offer (R117). A canister is available in READY or LOW on a manifold whose drive is not
FAULTED, and dispensable where that manifold is not stale (R43). Its free steps are its usable less its reserved steps, less the steps
asked by a top-up run in progress on it, in READY or LOW, and 0 in any other state (R43). -/
def Obligations.SelectionFollowsRanks : Prop :=
  ∀ s : State,
    let jobs := s.orders.jobs
    let parked (c : OrderClass) (j : Job) := j.cls = c ∧ s.hasProgress j = true
    let queued (c : OrderClass) (j : Job) := j.cls = c ∧ s.drawable j = true
    let none1 := ∀ j ∈ jobs, j.toRetrieve = false
    let none2 := ∀ j ∈ jobs, ¬ parked .rush j
    let none3 := ∀ j ∈ jobs, ¬ queued .rush j
    let none4 := ∀ j ∈ jobs, ¬ parked .normal j
    (∀ j, s.selection = some (.unpark j) → j ∈ jobs ∧
      ((j.toRetrieve = true ∧ ∀ k ∈ jobs, k.toRetrieve = true → j.parkNumber ≤ k.parkNumber) ∨
       (none1 ∧ parked .rush j ∧ ∀ k ∈ jobs, parked .rush k → j.parkNumber ≤ k.parkNumber) ∨
       (none1 ∧ none2 ∧ none3 ∧ parked .normal j ∧ ∀ k ∈ jobs, parked .normal k → j.parkNumber ≤ k.parkNumber))) ∧
    (∀ j, s.selection = some (.draw j) → j ∈ jobs ∧
      ((none1 ∧ none2 ∧ queued .rush j ∧ ∀ k ∈ jobs, queued .rush k → j.admission ≤ k.admission) ∨
       (none1 ∧ none2 ∧ none3 ∧ none4 ∧ queued .normal j ∧ ∀ k ∈ jobs, queued .normal k → j.admission ≤ k.admission))) ∧
    (s.selection = none → none1 ∧ none2 ∧ none3 ∧ none4 ∧ ∀ j ∈ jobs, ¬ queued .normal j) ∧
    (let serving := fun c : CanisterId => (s.canister c).state = .ready ∨ (s.canister c).state = .low
     let drive := fun c : CanisterId => if c.val < 8 then s.drive .a else s.drive .b
     let available := fun c : CanisterId => serving c ∧ ∀ f, (drive c).state ≠ .faulted f
     (∀ j : Job,
       (j.toRetrieve = true ↔ (∃ r n, j.state = .parked r n) ∧ j.cancelPending = true) ∧
       (∀ r n, j.state = .parked r n → j.parkNumber = n) ∧
       (s.hasProgress j = true ↔ (∃ r n, j.state = .parked r n) ∧ j.cancelPending = false ∧
         ∃ d ∈ j.doses, d.delivered < d.steps ∧ available d.canister) ∧
       (s.drawable j = true ↔
         j.state = .queued ∧ (∀ d ∈ j.doses, available d.canister) ∧ 0 < s.magazines.tins[j.size])) ∧
     (s.rushCandidate = true ↔ ∃ j ∈ jobs, parked .rush j ∨ queued .rush j) ∧
     (∀ c : CanisterId,
       (s.available c = true ↔ available c) ∧
       (s.dispensable c = true ↔ available c ∧ (drive c).stale = false) ∧
       (s.running c = true ↔ ∃ r, (drive c).state = .dosing r ∧ r.canister = c) ∧
       (¬ serving c → s.free c = 0) ∧
       (∀ r, serving c → (drive c).state = .dosing r → r.canister = c → r.topUp = true →
         s.free c = (s.canister c).usable - (s.canister c).reserved - r.asked) ∧
       (serving c → (∀ r, (drive c).state = .dosing r → r.canister = c → r.topUp = false) →
         s.free c = (s.canister c).usable - (s.canister c).reserved)))

/-- The start of a draw and of an unpark: the station takes the job, the count of the tin's size falls by 1 or the shelf is claimed, the
job becomes DOSING; where the station may not select or no rank offers a job, nothing is selected. The bank, the drives, the mixers, the
press, the settings and the clock stand (R86, R87, R89, R110). The station may select when it is EMPTY with a valid tare, the line is in RUN
or QUIET and its halted flag is clear (R84, R86); the shelf it unparks is the one that holds the job's tin (R109). -/
def Obligations.StationSelectStarts : Prop :=
  (∀ s : State, s.maySelect = true ↔ s.station.state = .empty ∧ s.weigh.tareValid = true ∧
    (s.line.mode = .run ∨ s.line.mode = .quiet) ∧ s.station.halted = false) ∧
  (∀ (s : State) (t : Tag),
    (∀ i : ShelfId, s.rack.shelfHolding t = some i ↔
      s.rack.shelves[i] = .holding t ∧ ∀ k : ShelfId, k < i → s.rack.shelves[k] ≠ .holding t) ∧
    (s.rack.shelfHolding t = none ↔ ∀ i : ShelfId, s.rack.shelves[i] ≠ .holding t)) ∧
  (∀ (s : State) (j : Job), s.maySelect = true → s.selection = some (.draw j) → ∃ t, exec .stationSelect s = .next t ∧
    t.station = { s.station with state := .drawing, job := some j.tag, transfer := some .draw } ∧
    t.magazines.tins[j.size] = s.magazines.tins[j.size] - 1 ∧
    (∀ z, z ≠ j.size → t.magazines.tins[z] = s.magazines.tins[z]) ∧ t.magazines.lids = s.magazines.lids ∧
    t.orders.jobs = s.orders.jobs.map (fun k => if k.tag = j.tag ∧ k.state = .queued then { k with state := .dosing } else k) ∧
    t.reports = (if s.magazines.tins[j.size] = 1 then (s.post .stockOut 0 (256 + j.size.val) 0).reports else s.reports) ∧
    t.rack = s.rack ∧ t.bank = s.bank ∧ t.drives = s.drives ∧ t.mixers = s.mixers ∧ t.press = s.press ∧
    t.line.settings = s.line.settings ∧ t.line.clock = s.line.clock ∧ t.line.mode = s.line.mode) ∧
  (∀ (s : State) (j : Job) (i : ShelfId), s.maySelect = true → s.selection = some (.unpark j) →
    s.rack.shelfHolding j.tag = some i → ∃ t, exec .stationSelect s = .next t ∧
    t.station = { s.station with state := .unparking, job := some j.tag, transfer := some (.unpark i) } ∧
    t.rack.shelves = s.rack.shelves.set i.val (.claimedUnpark j.tag) ∧ t.rack.parkCounter = s.rack.parkCounter ∧
    t.orders.jobs = s.orders.jobs.map (fun k =>
      if k.tag = j.tag ∧ k.isParked = true then { k with state := .dosing } else k) ∧
    t.magazines = s.magazines ∧ t.reports = s.reports ∧ t.bank = s.bank ∧ t.drives = s.drives ∧ t.mixers = s.mixers ∧
    t.press = s.press ∧ t.link = s.link ∧ t.line.settings = s.line.settings ∧ t.line.clock = s.line.clock) ∧
  (∀ s : State, s.maySelect = false ∨ s.selection = none → ∃ t, exec .stationSelect s = .next t ∧ t.station = s.station ∧
    t.orders = s.orders ∧ t.magazines = s.magazines ∧ t.rack = s.rack ∧ t.reports = s.reports ∧ t.weigh = s.weigh ∧
    t.bank = s.bank ∧ t.drives = s.drives ∧ t.mixers = s.mixers ∧ t.press = s.press ∧ t.link = s.link)

/-- The ends of the station's transfers: a draw ends in a settle (R87); an unpark frees its shelf and ends in a settle or a reject (R89); a
park leaves the tin on its shelf with the next park number and JOB_PARKED, or goes on to the reject chute (R103, R111); a discharge puts the
tag at the tail of the mix lane (R102); a reject finishes the job CANCELLED (R104). A freed shelf is FREE, and the park counter becomes 0
where all four are FREE (R110, R111). A park ends with the job DOSING no longer but PARKED with its reason and number; a park counter at its
top is first set to the number of parked jobs, which are numbered from 1 in the order of their park numbers (R7, R111). An end that finds
no such transfer going on changes nothing (log 7: the model's choice). -/
def Obligations.TransfersEnd : Prop :=
  (∀ (s : State) (i : ShelfId),
    ((∀ k : ShelfId, k ≠ i → s.rack.shelves[k] = .free) →
      s.freeShelfAt i = { s with rack := { shelves := s.rack.shelves.set i.val .free, parkCounter := 0 } }) ∧
    ((∃ k : ShelfId, k ≠ i ∧ s.rack.shelves[k] ≠ .free) →
      s.freeShelfAt i = { s with rack := { s.rack with shelves := s.rack.shelves.set i.val .free } })) ∧
  (∀ (s : State) (t : Tag) (r : ParkReason) (n : Nat), s.jobParked t r n = { s with orders := { s.orders with
    jobs := s.orders.jobs.map (fun j => if j.tag = t ∧ j.state = .dosing then { j with state := .parked r n } else j) } }) ∧
  (∀ s : State, s.stationEmpty = { s with station := { s.station with
      state := .empty, job := none, readingBefore := none, round := none, firstRound := none, transfer := none } } ∧
    s.startReject = { s with station := { s.station with state := .rejecting, transfer := some .reject } } ∧
    ∀ p, s.startSettle p = { s with station := { s.station with state := .weighing p, transfer := none } }) ∧
  (∀ (s : State) (t : Tag) (i : ShelfId) (r : ParkReason),
    let isParked := fun j : Job => match j.state with
      | .parked _ _ => true
      | _ => false
    let upTo := fun (n : Nat) (j : Job) => match j.state with
      | .parked _ k => decide (k ≤ n)
      | _ => false
    let count := (s.orders.jobs.filter isParked).length
    let renumbered := s.orders.jobs.map (fun j => match j.state with
      | .parked x n => { j with state := .parked x (s.orders.jobs.filter (upTo n)).length }
      | _ => j)
    s.station.state = .parking → s.station.halted = false → s.station.transfer = some (.park i r) → s.station.job = some t →
    s.stationCancelled = false → 4294967295 ≤ s.rack.parkCounter → exec .parkEnd s =
      .next ((((State.jobParked { s with
        orders := { s.orders with jobs := renumbered }
        rack := { shelves := s.rack.shelves.set i.val (.holding t), parkCounter := count + 1 } } t r (count + 1)).post
          .jobParked (if r = .preempt then 1 else 2) t 0).stationEmpty).conclude)) ∧
  ∀ (s : State) (t : Tag),
    let st := s.station
    (s.stationCancelled = true ↔ ∃ j, s.stationJob = some j ∧ j.cancelPending = true) ∧
    ((st.job = none → s.stationJob = none) ∧ (st.job = some t → s.stationJob = s.liveJob t)) ∧
    (st.state = .drawing → st.halted = false → exec .drawEnd s =
      .next { s with station := { st with state := .weighing .draw, transfer := none } }) ∧
    (∀ i, st.state = .unparking → st.halted = false → st.transfer = some (.unpark i) →
      (s.stationCancelled = true → exec .unparkEnd s = .next (s.freeShelfAt i).startReject.conclude) ∧
      (s.stationCancelled = false → exec .unparkEnd s = .next ((s.freeShelfAt i).startSettle .unpark).conclude)) ∧
    (∀ i r, st.state = .parking → st.halted = false → st.transfer = some (.park i r) → st.job = some t →
      (s.stationCancelled = true → exec .parkEnd s = .next (s.freeShelfAt i).startReject.conclude) ∧
      (s.stationCancelled = false → s.rack.parkCounter < 4294967295 → exec .parkEnd s =
        .next ((((State.jobParked { s with rack :=
          { shelves := s.rack.shelves.set i.val (.holding t), parkCounter := s.rack.parkCounter + 1 } }
            t r (s.rack.parkCounter + 1)).post .jobParked (if r = .preempt then 1 else 2) t 0).stationEmpty).conclude))) ∧
    (st.state = .discharging → st.halted = false → st.job = some t → exec .dischargeEnd s =
      .next (State.stationEmpty { s with mixers := { s.mixers with
        lane := s.mixers.lane ++ [t], heldPlace := false } }).conclude) ∧
    (st.state = .rejecting → st.halted = false → st.job = some t → exec .rejectEnd s =
      .next (s.finishJob t .cancelled).stationEmpty.conclude) ∧
    (st.state ≠ .drawing ∨ st.halted = true → exec .drawEnd s = .next s) ∧
    (st.state ≠ .unparking ∨ st.halted = true → exec .unparkEnd s = .next s) ∧
    (st.state ≠ .parking ∨ st.halted = true → exec .parkEnd s = .next s) ∧
    (st.state ≠ .discharging ∨ st.halted = true → exec .dischargeEnd s = .next s) ∧
    (st.state ≠ .rejecting ∨ st.halted = true → exec .rejectEnd s = .next s)

/-- The end of a settle. After a draw: no tin returns the job to QUEUED with the tin count at 0; a tin goes to the reject chute where
the cancel is pending, a plain-base job becomes DOSED, any other is weighed and stands at a boundary (R88). After an unpark the reading
before is taken and the boundary decisions made (R89). After a round its verdict is recorded and the boundary decisions made, but that an
UNDER round with a top-up allowed keeps its figures and sends the top-up request, the round's own record being cleared then (log 36: the
model's choice); a top-up round is judged with the first-round figures
(R96, R97, R98, R100). Recording a verdict writes it into each dose of the round and OUT_OF_TOL into the job for UNDER or OVER, clears the
round and its figures, and sends a verdict notice to the canister of each dose (R97, R100); that of the first dose, which is manifold A's in
a round of two, goes first (log 35: the model's choice). A job undrawn is QUEUED again, and CANCELLED at once where its cancel is pending
(R6). A settle that is not going on changes nothing (log 7: the model's choice). -/
def Obligations.SettleEnds : Prop :=
  (∀ (s : State) (t : Tag) (v : DoseVerdict) (doses : List (Nat × CanisterId)), s.station.job = some t →
    let u := s.recordVerdict v doses
    u.orders = { s.orders with jobs := s.orders.jobs.map (fun j => if j.tag = t ∧ j.finished = false then
      { j with verdict := if v = .under ∨ v = .over then .outOfTol else j.verdict
               doses := j.doses.map (fun d => if d.code ∈ doses.map (·.1) then { d with verdict := v } else d) } else j) } ∧
    u.station = { s.station with round := none, firstRound := none } ∧
    (∀ x, doses = [x] → u.bank = (s.verdictNotice x.2 v).bank ∧ u.reports = (s.verdictNotice x.2 v).reports) ∧
    (∀ x y, doses = [x, y] → u.bank = ((s.verdictNotice x.2 v).verdictNotice y.2 v).bank ∧
      u.reports = ((s.verdictNotice x.2 v).verdictNotice y.2 v).reports) ∧
    u.drives = s.drives ∧ u.weigh = s.weigh ∧ u.rack = s.rack ∧ u.mixers = s.mixers ∧ u.press = s.press ∧
    u.magazines = s.magazines ∧ u.line = s.line) ∧
  (∀ (s : State) (t : Tag) (j : Job), s.liveJob t = some j →
    let back : State := { s with orders := { s.orders with
      jobs := s.orders.jobs.map (fun k => if k.tag = t ∧ k.state = .dosing then { k with state := .queued } else k) } }
    s.jobUndrawn t = if j.cancelPending then back.finishJob t .cancelled else back) ∧
  (∀ (s : State) (z : Size),
    let emptied : State := { s with magazines := { s.magazines with tins := s.magazines.tins.set z.val 0 } }
    (s.magazines.tins[z] = 0 → s.tinsTo z 0 = emptied) ∧
    (0 < s.magazines.tins[z] → s.tinsTo z 0 = emptied.post .stockOut 0 (256 + z.val) 0)) ∧
  (∀ (s : State) (t : Tag),
    let dosed : State := { s with orders := { s.orders with
      jobs := s.orders.jobs.map (fun k => if k.tag = t ∧ k.state = .dosing then { k with state := .dosed } else k) } }
    (s.mixers.lane.length + (if s.mixers.heldPlace then 1 else 0) < 3 → s.becomeDosed t = { dosed with
      mixers := { s.mixers with heldPlace := true }
      station := { s.station with state := .discharging, transfer := some .discharge } }) ∧
    (3 ≤ s.mixers.lane.length + (if s.mixers.heldPlace then 1 else 0) → s.becomeDosed t = { dosed with
      station := { s.station with state := .held, transfer := none } })) ∧
  (∀ (s : State) (t : Tag) (code n : Nat), s.station.job = some t → s.setTopUp code n = { s with orders := { s.orders with
    jobs := s.orders.jobs.map (fun j => if j.tag = t ∧ j.finished = false then
      { j with doses := j.doses.map (fun d => if d.code = code then { d with topUp := n } else d) } else j) } }) ∧
  ∀ s : State,
    let st := s.station
    let tin := 10000 ≤ s.weigh.latest - s.weigh.zero
    let weighed : State := { s with station := { st with readingBefore := some s.weigh.latest } }
    (∀ j, st.halted = false → st.state = .weighing .draw → s.stationJob = some j →
      (¬ tin → exec .settleEnd s = .next (((s.tinsTo j.size 0).jobUndrawn j.tag).stationEmpty).conclude) ∧
      (tin → j.cancelPending = true → exec .settleEnd s = .next s.startReject.conclude) ∧
      (tin → j.cancelPending = false → j.doses = [] → exec .settleEnd s = .next (s.becomeDosed j.tag).conclude) ∧
      (tin → j.cancelPending = false → j.doses ≠ [] → exec .settleEnd s = .next weighed.boundary.conclude)) ∧
    (st.halted = false → st.state = .weighing .unpark → exec .settleEnd s = .next weighed.boundary.conclude) ∧
    (∀ (r : Round) (before : Int), st.halted = false → st.state = .weighing .round → st.round = some r →
      st.readingBefore = some before →
      let measured := (s.weigh.latest - before) * 10
      let e := r.expected
      let tol := max (e * s.line.settings.tolerance / 100) 20
      let v := verdictOf measured e tol
      let doses := r.runs.map (fun x => (x.code, x.canister))
      (r.topUp = false → v ≠ .under ∨ weighed.topUpFor r (e - measured).toNat = none →
        exec .settleEnd s = .next (weighed.recordVerdict v doses).boundary.conclude) ∧
      (∀ run n, r.topUp = false → v = .under → weighed.topUpFor r (e - measured).toNat = some (run, n) →
        let f : FirstRound := { code := run.code, canister := run.canister, expected := e, tolerance := tol, measured := measured }
        let u := weighed.setTopUp run.code n
        exec .settleEnd s = .next (State.requestTopUp
          { u with station := { u.station with round := none, firstRound := some f } } f).conclude) ∧
      (∀ f, r.topUp = true → st.firstRound = some f → exec .settleEnd s = .next
        (weighed.recordVerdict (verdictOf (f.measured + measured) f.expected f.tolerance) doses).boundary.conclude)) ∧
    (st.halted = true ∨ (∀ p, st.state ≠ .weighing p) → exec .settleEnd s = .next s)

/-- The decisions of a round boundary, in order: a pending cancel rejects the tin; a job with nothing outstanding becomes DOSED and takes
a place of the mix lane or is HELD; a NORMAL job is parked for a RUSH candidate where a shelf is free; a job whose outstanding doses are all
unavailable is parked, or BLOCKED with STATION_BLOCKED at each entry; otherwise each manifold's first dispensable dose is asked of its
drive, an IDLE one accepts, and the round is formed of the accepted runs, or the station is in WAIT_DRIVE (R70, R90, R91, R93, R101,
R103, R110). -/
def Obligations.BoundaryDecisionsInOrder : Prop :=
  ∀ (s : State) (t : Tag) (j : Job), s.station.job = some t → s.liveJob t = some j →
    let st := s.station
    let done := ∀ d ∈ j.doses, d.steps ≤ d.delivered
    let preempt := j.cls = .normal ∧ s.rushCandidate = true ∧ ∃ i : ShelfId, s.rack.shelves[i] = .free
    let stuck := ∀ d ∈ j.doses, d.delivered < d.steps →
      ((s.canister d.canister).state ≠ .ready ∧ (s.canister d.canister).state ≠ .low) ∨
        ∃ f, (s.drive (manifoldOf d.canister)).state = .faulted f
    let parked := fun (i : ShelfId) (r : ParkReason) => ({ s with
      rack := { s.rack with shelves := s.rack.shelves.set i.val (.claimedPark t) }
      station := { st with state := .parking, transfer := some (.park i r) } } : State)
    let lowest := fun i : ShelfId => s.rack.shelves[i] = .free ∧ ∀ k : ShelfId, k < i → s.rack.shelves[k] ≠ .free
    let wanted := fun (m : Manifold) (d : Dose) => d.delivered < d.steps ∧ manifoldOf d.canister = m ∧
      ((s.canister d.canister).state = .ready ∨ (s.canister d.canister).state = .low) ∧
      (∀ f, (s.drive m).state ≠ .faulted f) ∧ (s.drive m).stale = false ∧ (s.canister d.canister).offlinePending = false
    let accepted := fun (m : Manifold) (d : Dose) => (s.drive m).state = .idle ∧ (s.drive m).halted = false ∧
      ∃ before after, j.doses = before ++ d :: after ∧ wanted m d ∧ ∀ x ∈ before, ¬ wanted m x
    let run := fun d : Dose => ({ code := d.code, canister := d.canister, asked := d.steps - d.delivered,
                                  density := (s.canister d.canister).density, ended := none } : RoundRun)
    let started := fun d : Dose => ({ tag := t, code := d.code, canister := d.canister, asked := d.steps - d.delivered,
                                      topUp := false, pumped := 0 } : DoseRun)
    (s.jobDosed t = { s with orders := { s.orders with
      jobs := s.orders.jobs.map (fun k => if k.tag = t ∧ k.state = .dosing then { k with state := .dosed } else k) } }) ∧
    (j.cancelPending = true → s.boundary = { s with station := { st with state := .rejecting, transfer := some .reject } }) ∧
    (j.cancelPending = false → done →
      (s.mixers.lane.length + (if s.mixers.heldPlace then 1 else 0) < 3 → s.boundary = { s.jobDosed t with
        mixers := { s.mixers with heldPlace := true }
        station := { st with state := .discharging, transfer := some .discharge } }) ∧
      (3 ≤ s.mixers.lane.length + (if s.mixers.heldPlace then 1 else 0) → s.boundary = { s.jobDosed t with
        station := { st with state := .held, transfer := none } })) ∧
    (∀ i, j.cancelPending = false → ¬ done → preempt → lowest i → s.boundary = parked i .preempt) ∧
    (∀ i, j.cancelPending = false → ¬ done → ¬ preempt → stuck → lowest i → s.boundary = parked i .waitColourant) ∧
    (j.cancelPending = false → ¬ done → ¬ preempt → stuck → (∀ i : ShelfId, s.rack.shelves[i] ≠ .free) →
      (st.state ≠ .blocked → s.boundary =
        State.post { s with station := { st with state := .blocked } } .stationBlocked 0 t 0) ∧
      (st.state = .blocked → s.boundary = s)) ∧
    (j.cancelPending = false → ¬ done → ¬ preempt → ¬ stuck →
      (∀ m d, accepted m d → s.boundary.drive m = { s.drive m with state := .dosing (started d) }) ∧
      (∀ m, (∀ d, ¬ accepted m d) → s.boundary.drive m = s.drive m) ∧
      (∀ runs, runs ≠ [] →
        (∃ ra rb, runs = ra ++ rb ∧
          ((∃ d, accepted .a d ∧ ra = [run d]) ∨ ((∀ d, ¬ accepted .a d) ∧ ra = [])) ∧
          ((∃ d, accepted .b d ∧ rb = [run d]) ∨ ((∀ d, ¬ accepted .b d) ∧ rb = []))) →
        s.boundary.station =
          { st with state := .dosing, round := some { runs := runs, topUp := false, interrupted := false } }) ∧
      ((∀ m d, ¬ accepted m d) → s.boundary.station = { st with state := .waitDrive, round := none }) ∧
      s.boundary.orders = s.orders ∧ s.boundary.bank = s.bank ∧ s.boundary.weigh = s.weigh ∧ s.boundary.rack = s.rack ∧
      s.boundary.mixers = s.mixers ∧ s.boundary.press = s.press ∧ s.boundary.magazines = s.magazines ∧
      s.boundary.reports = s.reports ∧ s.boundary.line = s.line ∧ s.boundary.link = s.link)

/-- The top-up request: with the free cap met, an IDLE drive starts the top-up run and the station is DOSING with a top-up round; a drive
at work leaves the station in WAIT_DRIVE; any other answer, or a failed free cap, abandons the top-up and the boundary decisions are made.
An abandoned top-up has its steps returned to 0, its dose UNDER, its job OUT_OF_TOL, and a verdict notice of UNDER sent to its canister. In
WAIT_DRIVE with a top-up due a pending cancel or a canister no longer available abandons it, and an IDLE drive is asked again (R70, R99).
-/
def Obligations.TopUpRequestAnswered : Prop :=
  ∀ (s : State) (t : Tag) (j : Job) (f : FirstRound) (before after : List Dose) (d : Dose),
    s.station.job = some t → s.liveJob t = some j → j.doses = before ++ d :: after → d.code = f.code →
    (∀ x ∈ before, x.code ≠ f.code) →
    let st := s.station
    let m := manifoldOf f.canister
    let k := s.canister f.canister
    let serving := (k.state = .ready ∨ k.state = .low) ∧ k.offlinePending = false
    let busy := (∃ r, (s.drive m).state = .dosing r) ∨ ∃ e n, (s.drive m).state = .stirring e n
    let abandoned := (s.abandonTopUp f).boundary
    let run : RoundRun := { code := f.code, canister := f.canister, asked := d.topUp, density := k.density, ended := none }
    let started : DoseRun :=
      { tag := t, code := f.code, canister := f.canister, asked := d.topUp, topUp := true, pumped := 0 }
    (d.topUp ≤ s.free f.canister → (s.drive m).halted = false → (s.drive m).state = .idle → serving →
      s.requestTopUp f = { s.setDrive m { s.drive m with state := .dosing started } with
        station := { st with state := .dosing, round := some { runs := [run], topUp := true, interrupted := false } } }) ∧
    (d.topUp ≤ s.free f.canister → (s.drive m).halted = false → busy →
      s.requestTopUp f = { s with station := { st with state := .waitDrive } }) ∧
    (s.free f.canister < d.topUp ∨ (s.drive m).halted = true ∨ (∃ x, (s.drive m).state = .faulted x) ∨
      ((s.drive m).state = .idle ∧ ¬ serving) → s.requestTopUp f = abandoned) ∧
    ((s.abandonTopUp f).station = { st with state := .waitDrive, round := none, firstRound := none } ∧
      (s.abandonTopUp f).bank = (s.verdictNotice f.canister .under).bank ∧
      (s.abandonTopUp f).reports = (s.verdictNotice f.canister .under).reports ∧
      (s.abandonTopUp f).orders.jobs = s.orders.jobs.map (fun x => if x.tag = t ∧ x.finished = false then
        { x with verdict := .outOfTol, doses := x.doses.map (fun y =>
          if y.code = f.code then { y with topUp := 0, verdict := .under } else y) } else x)) ∧
    (st.state = .waitDrive → st.firstRound = some f → st.halted = false →
      (j.cancelPending = true ∨ (k.state ≠ .ready ∧ k.state ≠ .low) ∨ (∃ x, (s.drive m).state = .faulted x) →
        s.stationTest = abandoned) ∧
      (j.cancelPending = false → (k.state = .ready ∨ k.state = .low) → (s.drive m).state = .idle →
        s.stationTest = s.requestTopUp f) ∧
      (j.cancelPending = false → (k.state = .ready ∨ k.state = .low) → busy → s.stationTest = s))

/-- The figures of a round: the expected mass of a run of n steps at density d is floor((n × d + 100) / 200), summed over the runs (R34);
the measured mass is ten times the difference of the readings (R35); the tolerance is floor(expected × p / 100), at least 20 (R36); the
verdict compares measured with expected and tolerance, the bounds in tolerance (R36); the top-up size is the smallest whole number of steps
whose exact mass is at least the deficit (R38), and a top-up is allowed exactly for a single completed dose that has had none, within the
quarter cap and the free cap of a canister in service, the job's cancel not pending (R37, R38). -/
def Obligations.RoundFigures : Prop :=
  (∀ n d : Nat, expectedMass n d = (n * d + 100) / 200) ∧
  (∀ r : Round, r.expected = (r.runs.map (fun x => match x.ended with
    | some e => (e.pumped * x.density + 100) / 200
    | none => 0)).sum) ∧
  (∀ before after : Int, measuredMass before after = (after - before) * 10) ∧
  (∀ e p : Nat, toleranceOf e p = if e * p < 2100 then 20 else e * p / 100) ∧
  (∀ (measured : Int) (e tol : Nat),
    (verdictOf measured e tol = .under ↔ measured < (e : Int) - tol) ∧
    (verdictOf measured e tol = .over ↔ (e : Int) + tol < measured) ∧
    (verdictOf measured e tol = .inTol ↔ (e : Int) - tol ≤ measured ∧ measured ≤ (e : Int) + tol)) ∧
  (∀ deficit d : Nat, 0 < d → deficit * 200 ≤ topUpSteps deficit d * d ∧
    ∀ m, deficit * 200 ≤ m * d → topUpSteps deficit d ≤ m) ∧
  (∀ (s : State) (r : Round) (deficit : Nat) (run : RoundRun) (n : Nat), s.topUpFor r deficit = some (run, n) ↔
    r.runs = [run] ∧ run.ended = some { pumped := run.asked, cause := .complete } ∧ n = topUpSteps deficit run.density ∧
    n ≤ run.asked / 4 ∧ n ≤ s.free run.canister ∧
    ((s.canister run.canister).state = .ready ∨ (s.canister run.canister).state = .low) ∧
    ∃ j, s.stationJob = some j ∧ j.cancelPending = false ∧ ∃ d ∈ j.doses, d.code = run.code ∧ d.topUp = 0)

/-! ## The Mixer Pool -/

/-- The end of a load and of a reclamp starts a run from 0 and raises the mix attempts by 1 (R127, R129). A run whose elapsed has reached
the mix time goes to the outfeed with lid-skip, to a place of the lid lane that it holds, or to HOLDING with the job MIXED (R129, R131). An
end that finds no such operation going on changes nothing (log 7: the model's choice). -/
def Obligations.MixerOperationsEnd : Prop :=
  ∀ (s : State) (k : MixerId),
    let x := s.mixer k
    let up := fun j : Job => { j with mixAttempts := j.mixAttempts + 1 }
    (∀ t, (x.tag = none → s.mixerJob k = none) ∧ (x.tag = some t → s.mixerJob k = s.liveJob t) ∧
      s.jobMixed t = { s with orders := { s.orders with jobs := s.orders.jobs.map (fun j =>
        if j.tag = t ∧ j.state = .mixing then { j with state := .mixed } else j) } } ∧
      ∀ f : Job → Job, s.updateLive t f = { s with orders := { s.orders with jobs := s.orders.jobs.map (fun j =>
        if j.tag = t ∧ j.finished = false then f j else j) } }) ∧
    (∀ t, x.state = .loading → x.halted = false → x.tag = some t → exec (.loadEnd k) s =
      .next ((s.setMixer k { x with state := .running 0 }).updateLive t up)) ∧
    (∀ t, x.state = .reclamp → x.halted = false → x.tag = some t → exec (.reclampEnd k) s =
      .next ((s.setMixer k { x with state := .running 0 }).updateLive t up)) ∧
    (x.state ≠ .loading ∨ x.halted = true → exec (.loadEnd k) s = .next s) ∧
    (x.state ≠ .reclamp ∨ x.halted = true → exec (.reclampEnd k) s = .next s) ∧
    (∀ e time j, x.state = .running e → x.mixTime = some time → s.mixerJob k = some j → time ≤ e → x.halted = false →
      (j.lidSkip = true → exec (.mixRunComplete k) s =
        .next (s.setMixer k { x with state := .unloading, lidLanePlace := false }).conclude) ∧
      (j.lidSkip = false → s.press.lane.length + s.press.heldPlaces < 3 → ∃ u : State,
        exec (.mixRunComplete k) s = .next u.conclude ∧ u.mixer k = { x with state := .unloading, lidLanePlace := true } ∧
        u.press = { s.press with heldPlaces := s.press.heldPlaces + 1 } ∧ u.orders = s.orders ∧ u.reports = s.reports ∧
        u.mixers.lane = s.mixers.lane) ∧
      (j.lidSkip = false → 3 ≤ s.press.lane.length + s.press.heldPlaces → ∃ u : State,
        exec (.mixRunComplete k) s = .next u.conclude ∧ u.mixer k = { x with state := .holding } ∧ u.press = s.press ∧
        u.mixers.holdOrder = s.mixers.holdOrder ++ [k] ∧ u.orders = (s.jobMixed j.tag).orders ∧ u.reports = s.reports)) ∧
    ((∀ e time, x.state = .running e → x.mixTime = some time → e < time) ∨ x.halted = true →
      exec (.mixRunComplete k) s = .next s)

/-- An imbalance in RUNNING sends the mixer to RECLAMP at the first mix attempt and to FAULT at the second, the job FAILED and MIXER_FAULT
posted after it; in any other state, and in a halted mixer, it is ignored (R129, R130, R135). The end of an unload finishes the job DONE at
the outfeed or puts its tag at the tail of the lid lane, and the mixer becomes IDLE and empty with its cycle count raised (R131). An end
that finds no unload going on changes nothing (log 7: the model's choice). -/
def Obligations.ImbalanceAndUnload : Prop :=
  ∀ (s : State) (k : MixerId),
    let x := s.mixer k
    let empty : Mixer := { state := .idle, tag := none, mixTime := none, lidLanePlace := false,
                           cycleCount := min 4294967295 (x.cycleCount + 1), halted := x.halted }
    (∀ e j, x.state = .running e → s.mixerJob k = some j → x.halted = false →
      (j.mixAttempts < 2 → exec (.imbalance k) s = .next (s.setMixer k { x with state := .reclamp })) ∧
      (2 ≤ j.mixAttempts → exec (.imbalance k) s =
        .next ((((s.setMixer k { x with state := .fault, mixTime := none }).finishJob j.tag (.failed .mixFault)).post
          .mixerFault 0 (if k = .m0 then 0 else 1) 0).conclude))) ∧
    ((∀ e, x.state ≠ .running e) ∨ x.halted = true → exec (.imbalance k) s = .next s) ∧
    (∀ t, x.state = .unloading → x.halted = false → x.tag = some t →
      (x.lidLanePlace = false → exec (.unloadEnd k) s = .next ((s.finishJob t .done).setMixer k empty).conclude) ∧
      (x.lidLanePlace = true → exec (.unloadEnd k) s =
        .next (((State.jobMixed { s with press := { s.press with
          lane := s.press.lane ++ [t], heldPlaces := s.press.heldPlaces - 1 } } t).setMixer k empty).conclude))) ∧
    (x.state ≠ .unloading ∨ x.halted = true → exec (.unloadEnd k) s = .next s)

/-- The mixer that takes the head tin is IDLE, takes the size, is not mixer 1 in QUIET and not halted; of two such the lower cycle count
wins, and mixer 0 where the counts are equal; where none wins, neither is such a mixer (R126). The mix time of a job is its override, or the
base time of its size and 10 s for each dose beyond the second; in QUIET the figure times 3 and divided by 2, a fraction rounded up. It is
written into the mixer at the start of the load, at which the DOSED job becomes MIXING with mixer used (R9, R127, R128). In RUN and QUIET
the winner loads the head tin of the mix lane (R126); a free place of the lid lane goes to the mixer that entered HOLDING earliest, which
unloads into it (R132). That a halted mixer in HOLDING takes no place is read from R135 (log 26). -/
def Obligations.MixerChoiceAndMixTime : Prop :=
  (∀ (s : State) (z : Size),
     let ok := fun k : MixerId => (s.mixer k).state = .idle ∧ (k = .m0 ∨ z.val ≤ 3) ∧
       ¬ (k = .m1 ∧ s.line.mode = .quiet) ∧ (s.mixer k).halted = false
     (s.winner z = none ↔ ¬ ok .m0 ∧ ¬ ok .m1) ∧
     (s.winner z = some .m0 ↔ ok .m0 ∧ (¬ ok .m1 ∨ (s.mixer .m0).cycleCount ≤ (s.mixer .m1).cycleCount)) ∧
     (s.winner z = some .m1 ↔ ok .m1 ∧ (¬ ok .m0 ∨ (s.mixer .m1).cycleCount < (s.mixer .m0).cycleCount))) ∧
  (∀ (s : State) (k : MixerId) (j : Job) (mode : LineMode),
     let base := match j.size with
       | 0 => 60
       | 1 => 75
       | 2 => 90
       | 3 => 120
       | 4 => 150
     let figure := match j.mixOverride with
       | some n => n
       | none => if j.doses.length ≤ 2 then base else base + 10 * (j.doses.length - 2)
     (mode ≠ .quiet → j.mixTime mode = figure) ∧
     (figure * 3 ≤ j.mixTime .quiet * 2 ∧ j.mixTime .quiet * 2 < figure * 3 + 2) ∧
     ((s.startLoad k j).mixer k).mixTime = some (j.mixTime s.line.mode) ∧ ((s.startLoad k j).mixer k).state = .loading ∧
     ((s.startLoad k j).mixer k).tag = some j.tag ∧ (s.startLoad k j).mixers.lane = s.mixers.lane.tail ∧
     (s.startLoad k j).orders = { s.orders with jobs := s.orders.jobs.map (fun x =>
       if x.tag = j.tag ∧ x.state = .dosed then { x with state := .mixing, mixerUsed := some k } else x) }) ∧
  (∀ (s : State) (t : Tag) (rest : List Tag) (j : Job), s.mixers.lane = t :: rest → s.liveJob t = some j →
    (∀ k, s.line.mode = .run ∨ s.line.mode = .quiet → s.winner j.size = some k → s.chooseMixer = s.startLoad k j) ∧
    ((s.line.mode ≠ .run ∧ s.line.mode ≠ .quiet) ∨ s.winner j.size = none → s.chooseMixer = s)) ∧
  (∀ (s : State) (k : MixerId) (rest : List MixerId), s.mixers.holdOrder = k :: rest →
    let may := s.press.lane.length + s.press.heldPlaces < 3 ∧ (s.mixer k).state = .holding ∧ (s.mixer k).halted = false
    (may → s.serveHolding.mixer k = { s.mixer k with state := .unloading, lidLanePlace := true } ∧
      s.serveHolding.press = { s.press with heldPlaces := s.press.heldPlaces + 1 } ∧
      s.serveHolding.mixers.holdOrder = (k :: rest).filter (fun x => x ≠ k) ∧ s.serveHolding.orders = s.orders) ∧
    (¬ may → s.serveHolding = s))

/-! ## The Lid Press and Magazine Counts -/

/-- An IDLE press in RUN or QUIET, not halted, with a lid for the head tin of the lid lane begins its feed: the tag leaves the lane, the
job becomes LIDDING, and a lid is drawn; a press in WAIT_LID leaves it by a feed or a reseat, as its lid due says, once there is a lid
(R10, R141, R143). The lid-present report: at the end of a feed a lid present starts the seat; a lid missing, there or in a reseat, clears
lid in head, sets the lid count to 0 and puts the press in WAIT_LID with lid due FIRST or RETRY; during a reseat a lid present changes
nothing. A report that finds no feed or reseat going on is ignored (R142, R145, R148). A lid count that passes from above 0 to 0, by a draw
or by a missing lid, posts STOCK_OUT for its size; one at 0 already posts nothing, and no other count changes (R151). -/
def Obligations.PressFeedsAndLidReports : Prop :=
  (∀ (s : State) (z : Size) (n : Nat),
    let stored : State := { s with magazines := { s.magazines with lids := s.magazines.lids.set z.val n } }
    (0 < s.magazines.lids[z] → n = 0 → s.lidsTo z n = stored.post .stockOut 0 (512 + z.val) 0) ∧
    (s.magazines.lids[z] = 0 ∨ 0 < n → s.lidsTo z n = stored) ∧
    (let drawn := s.lidsTo z (s.magazines.lids[z] - 1)
     s.drawLid z = { drawn with press := { s.press with lidInHead := true } })) ∧
  (∀ (s : State) (t : Tag), (s.press.tag = none → s.pressJob = none) ∧ (s.press.tag = some t → s.pressJob = s.liveJob t)) ∧
  ∀ s : State,
    let p := s.press
    (p.state = .seating .feed → p.halted = false → exec (.feedEnd true) s =
      .next { s with press := { p with state := .seating .seat } }) ∧
    (∀ j, p.state = .seating .feed → p.halted = false → s.pressJob = some j → exec (.feedEnd false) s =
      .next (State.lidsTo { s with press := { p with lidInHead := false, state := .waitLid .first } } j.size 0).conclude) ∧
    (∀ b, p.state ≠ .seating .feed ∨ p.halted = true → exec (.feedEnd b) s = .next s) ∧
    (exec (.reseatLidPresent true) s = .next s) ∧
    (∀ j, p.state = .reseating → p.halted = false → s.pressJob = some j → exec (.reseatLidPresent false) s =
      .next (State.lidsTo { s with press := { p with lidInHead := false, state := .waitLid .retry } } j.size 0).conclude) ∧
    (∀ b, p.state ≠ .reseating ∨ p.halted = true → exec (.reseatLidPresent b) s = .next s) ∧
    (∀ t rest j, p.lane = t :: rest → s.liveJob t = some j →
      let may := p.state = .idle ∧ (s.line.mode = .run ∨ s.line.mode = .quiet) ∧ p.halted = false ∧ 0 < s.magazines.lids[j.size]
      (may → s.feedTest.press = { p with lane := rest, tag := some t, state := .seating .feed, lidInHead := true } ∧
        s.feedTest.magazines.lids = s.magazines.lids.set j.size.val (s.magazines.lids[j.size] - 1) ∧
        s.feedTest.magazines.tins = s.magazines.tins ∧
        s.feedTest.orders.jobs = s.orders.jobs.map (fun k =>
          if k.tag = t ∧ k.state = .mixed then { k with state := .lidding } else k) ∧
        s.feedTest.reports =
          (if s.magazines.lids[j.size] = 1 then (s.post .stockOut 0 (512 + j.size.val) 0).reports else s.reports)) ∧
      (¬ may → s.feedTest = s)) ∧
    (p.lane = [] → s.feedTest = s) ∧
    (∀ due j, p.state = .waitLid due → s.pressJob = some j →
      let may := (s.line.mode = .run ∨ s.line.mode = .quiet) ∧ p.halted = false ∧ 0 < s.magazines.lids[j.size]
      (may → s.waitLidTest.press =
          { p with state := if due = .first then .seating .feed else .reseating, lidInHead := true } ∧
        s.waitLidTest.magazines.lids = s.magazines.lids.set j.size.val (s.magazines.lids[j.size] - 1) ∧
        s.waitLidTest.magazines.tins = s.magazines.tins ∧
        s.waitLidTest.reports =
          (if s.magazines.lids[j.size] = 1 then (s.post .stockOut 0 (512 + j.size.val) 0).reports else s.reports) ∧
        s.waitLidTest.orders = s.orders) ∧
      (¬ may → s.waitLidTest = s))

/-- The force check clears lid in head and raises the lid attempts by 1; PASS ejects to the outfeed and clears the consecutive failures; a
first FAIL reseats, drawing a lid, or waits where the count is 0; a second FAIL ejects to the reject chute and raises the consecutive
failures. A report that finds no seat going on is ignored (R144, R145, R148). That the report is taken in RESEATING whether or not a
lid-present report came before it is read from R144 and R145 (log 23). -/
def Obligations.ForceCheckDecides : Prop :=
  ∀ (s : State) (j : Job),
    let p := s.press
    let seating := (p.state = .seating .seat ∨ p.state = .reseating) ∧ p.halted = false
    let counted : PressState → Nat → State := fun x failures =>
      State.updateLive { s with press := { p with lidInHead := false, state := x, failures := failures } } j.tag
        (fun k => { k with lidAttempts := j.lidAttempts + 1 })
    (seating → s.pressJob = some j →
      exec (.seatEnd .pass) s = .next (counted (.ejecting .outfeed) 0).conclude ∧
      (j.lidAttempts = 0 → 0 < s.magazines.lids[j.size] →
        exec (.seatEnd .fail) s = .next ((counted .reseating p.failures).drawLid j.size).conclude) ∧
      (j.lidAttempts = 0 → s.magazines.lids[j.size] = 0 →
        exec (.seatEnd .fail) s = .next (counted (.waitLid .retry) p.failures).conclude) ∧
      (1 ≤ j.lidAttempts →
        exec (.seatEnd .fail) s = .next (counted (.ejecting .reject) (p.failures + 1)).conclude)) ∧
    (∀ f, ¬ seating → exec (.seatEnd f) s = .next s)

/-- The end of an ejection finishes the job, DONE at the outfeed and FAILED with LID_FAULT at the reject chute; the press is empty, and in
FAULT with PRESS_FAULT posted where two tins in a row were rejected, IDLE otherwise (R146). An end that finds no ejection going on changes
nothing (log 7: the model's choice). -/
def Obligations.EjectionEnds : Prop :=
  ∀ (s : State) (t : Tag) (d : Destination),
    let p := s.press
    let u := s.finishJob t (match d with
      | .outfeed => .done
      | .reject => .failed .lidFault)
    (p.state = .ejecting d → p.halted = false → p.tag = some t →
      (p.failures = 2 → exec .ejectionEnd s =
        .next (State.post { u with press := { p with tag := none, state := .fault } } .pressFault 0 0 0).conclude) ∧
      (p.failures ≠ 2 → exec .ejectionEnd s =
        .next (State.conclude { u with press := { p with tag := none, state := .idle } }))) ∧
    ((∀ x, p.state ≠ .ejecting x) ∨ p.halted = true → exec .ejectionEnd s = .next s)

/-- STOCK_LOAD adds a count to the named magazine count and STOCK_SET replaces it, up to the magazine's capacity; a wrong item, a wrong
size code and, for STOCK_LOAD, a count of 0 are refused in that order; the nine other counts stand, and no report is posted (R151, R152).
-/
def Obligations.StockRequests : Prop :=
  (∀ (s : State) (z : Size) (n : Nat),
    s.setStock .tins z n = { s with magazines := { s.magazines with tins := s.magazines.tins.set z.val n } } ∧
    s.setStock .lids z n = { s with magazines := { s.magazines with lids := s.magazines.lids.set z.val n } } ∧
    (s.setStock .tins z n).magazines.tins[z] = n ∧ (s.setStock .lids z n).magazines.lids[z] = n ∧
    ∀ y : Size, y ≠ z → (s.setStock .tins z n).magazines.tins[y] = s.magazines.tins[y] ∧
      (s.setStock .lids z n).magazines.lids[y] = s.magazines.lids[y]) ∧
  ∀ (s : State) (item size count : Byte),
    let b := s.beginService
    let body := [item, size, count]
    let answer (k : RequestKind) (i : Item) (z : Size) (n : Nat) :=
      let cap := match i, z with
        | .tins, 0 => 30
        | .tins, 1 => 24
        | .tins, 2 => 12
        | .tins, 3 => 8
        | .tins, 4 => 6
        | .lids, 0 => 60
        | .lids, 1 => 48
        | .lids, 2 => 24
        | .lids, 3 => 16
        | .lids, 4 => 12
      let v := if cap < n then cap else n
      Host.Outcome.next (ρ := Refusal) (φ := Fault)
        ((b.setStock i z v).conclude.answered k (if cap < n then .clamped else .ok) ([item, size] ++ enc1 v))
    (s.link.serves RequestKind.stockLoad.code body = true →
      (item.toNat ≠ 1 → item.toNat ≠ 2 → exec (.stockLoad body) s = .next (b.answered .stockLoad .badField [1, 0])) ∧
      (item.toNat = 1 ∨ item.toNat = 2 → 5 ≤ size.toNat →
        exec (.stockLoad body) s = .next (b.answered .stockLoad .badField [2, 0])) ∧
      (item.toNat = 1 ∨ item.toNat = 2 → size.toNat ≤ 4 → count = 0 →
        exec (.stockLoad body) s = .next (b.answered .stockLoad .badField [3, 0])) ∧
      (∀ (i : Item) (z : Size), item.toNat = (if i = .tins then 1 else 2) → size.toNat = z.val → count ≠ 0 →
        exec (.stockLoad body) s = answer .stockLoad i z
          ((if i = .tins then s.magazines.tins[z] else s.magazines.lids[z]) + count.toNat))) ∧
    (s.link.serves RequestKind.stockSet.code body = true →
      (item.toNat ≠ 1 → item.toNat ≠ 2 → exec (.stockSet body) s = .next (b.answered .stockSet .badField [1, 0])) ∧
      (item.toNat = 1 ∨ item.toNat = 2 → 5 ≤ size.toNat →
        exec (.stockSet body) s = .next (b.answered .stockSet .badField [2, 0])) ∧
      (∀ (i : Item) (z : Size), item.toNat = (if i = .tins then 1 else 2) → size.toNat = z.val →
        exec (.stockSet body) s = answer .stockSet i z count.toNat))

/-! ## Line Mode Control -/

/-- A second of the line clock: both stir clocks rise by 1 and stay at their top, a stir's elapsed and the elapsed of a mixer's run rise by
1, and the idle timer's elapsed rises by 1 while it runs (R65, R129, R135, R156, R163). The tests then made, as on LINE_SET, are spelled
for every state: a manifold whose stir clock has reached the interval plus 1,800 s is stale, and MANIFOLD_STALE is posted when the flag is
set (R66); a running idle timer that has reached the timeout stops at 0, the line enters STANDBY, MODE is posted and the tare becomes
invalid (R82, R84, R154, R156); an IDLE drive with a stir due starts it where its halted flag and the mode allow (R67, R68, R78). That
staleness of A and of B, the expiry and the stirs of A and of B are tested in this order, which orders the records of one second, is the
model's choice (log 9). -/
def Obligations.ClockTickCounts : Prop :=
  (∀ s : State, ∃ t, exec .lineClockTick s = .next t ∧ t.line.clock = s.line.clock + 1 ∧
    (∀ m, (t.drive m).stirClock = (if 4294967295 ≤ (s.drive m).stirClock then 4294967295 else (s.drive m).stirClock + 1) ∧
      (t.drive m).halted = (s.drive m).halted ∧
      (∀ e n, (s.drive m).state = .stirring e n → (t.drive m).state = .stirring (e + 1) n) ∧
      (∀ r, (s.drive m).state = .dosing r → (t.drive m).state = .dosing r) ∧
      (∀ f, (s.drive m).state = .faulted f → (t.drive m).state = .faulted f) ∧
      ((s.drive m).state = .idle → (t.drive m).state =
        if ((t.drive m).stale = true ∨ s.line.settings.stirInterval * 60 ≤ (t.drive m).stirClock) ∧ (s.drive m).halted = false ∧
            t.line.mode ≠ .halted ∧ (t.line.mode = .sleep → s.line.settings.heartbeat = true) then
          .stirring 0 s.line.settings.stirDuration
        else .idle) ∧
      ((t.drive m).stale = true ↔ (s.drive m).stale = true ∨
        s.line.settings.stirInterval * 60 + 1800 ≤ (t.drive m).stirClock)) ∧
    (∀ k e, (s.mixer k).state = .running e → (s.mixer k).halted = false →
      t.mixer k = { s.mixer k with state := .running (e + 1) }) ∧
    (∀ k, (∀ e, (s.mixer k).state ≠ .running e) ∨ (s.mixer k).halted = true → t.mixer k = s.mixer k) ∧
    (s.line.idle.running = true → s.line.idle.elapsed + 1 < s.line.settings.idleTimeout →
      t.line.idle = { elapsed := s.line.idle.elapsed + 1, running := true } ∧ t.line.mode = s.line.mode ∧
      t.weigh = s.weigh ∧ t.station = s.station) ∧
    (s.line.idle.running = true → s.line.settings.idleTimeout ≤ s.line.idle.elapsed + 1 →
      t.line.idle = { elapsed := 0, running := false } ∧ t.line.mode = .standby ∧
      t.weigh = { s.weigh with tareValid := false, window := [], tracked := 0, strayMs := none } ∧
      t.station = (if s.station.state = .empty then { s.station with state := .tareWait } else s.station)) ∧
    (s.line.idle.running = false → t.line.idle = s.line.idle ∧ t.line.mode = s.line.mode ∧
      t.weigh = s.weigh ∧ t.station = s.station) ∧
    t.orders = s.orders ∧ t.bank = s.bank ∧ t.magazines = s.magazines ∧ t.rack = s.rack ∧ t.press = s.press ∧
    t.line.settings = s.line.settings ∧ t.line.saved = s.line.saved ∧ t.line.estop = s.line.estop) ∧
  (∀ s : State,
    let risen (d : Drive) : Drive := { d with
      stirClock := if 4294967295 ≤ d.stirClock then 4294967295 else d.stirClock + 1
      state := match d.state with
        | .stirring e n => .stirring (e + 1) n
        | x => x }
    let run (x : Mixer) : Mixer := match x.state with
      | .running e => if x.halted then x else { x with state := .running (e + 1) }
      | _ => x
    exec .lineClockTick s = .next (State.clockTests { s with
      drives := { a := risen s.drives.a, b := risen s.drives.b }
      mixers := { s.mixers with m0 := run s.mixers.m0, m1 := run s.mixers.m1 }
      line := { s.line with
        clock := s.line.clock + 1
        idle := if s.line.idle.running then { s.line.idle with elapsed := s.line.idle.elapsed + 1 } else s.line.idle } })) ∧
  (∀ s : State,
    let interval := s.line.settings.stirInterval * 60
    let overdue (m : Manifold) : Bool := decide (interval + 1800 ≤ (s.drive m).stirClock)
    let expires : Bool := s.line.idle.running && decide (s.line.settings.idleTimeout ≤ s.line.idle.elapsed)
    let mode := if expires then .standby else s.line.mode
    let starts (m : Manifold) : Bool :=
      decide ((s.drive m).state = .idle) && ((s.drive m).stale || decide (interval ≤ (s.drive m).stirClock)) &&
        !(s.drive m).halted && decide (mode ≠ .halted ∧ (mode = .sleep → s.line.settings.heartbeat = true))
    let tested (m : Manifold) : Drive := { s.drive m with
      stale := (s.drive m).stale || overdue m
      state := if starts m then .stirring 0 s.line.settings.stirDuration else (s.drive m).state }
    let a := if overdue .a && !(s.drive .a).stale then s.post .manifoldStale 0 0 (s.drive .a).stirClock else s
    let b := if overdue .b && !(s.drive .b).stale then a.post .manifoldStale 0 1 (s.drive .b).stirClock else a
    let posted := if expires then b.post .mode 3 0 0 else b
    s.clockTests = { posted with
      drives := { a := tested .a, b := tested .b }
      line := if expires then { s.line with mode := .standby, idle := { elapsed := 0, running := false } } else s.line
      weigh := if expires then { s.weigh with tareValid := false, window := [], tracked := 0, strayMs := none } else s.weigh
      station := if expires && decide (s.station.state = .empty) then { s.station with state := .tareWait } else s.station })

/-- LINE_SET stores each setting brought into its range, a flag above 1 as on, answers every setting as stored, and CLAMPED where one was
changed (R159). The staleness, expiry and stir tests follow at once, `clockTests` of the settings as stored (R66, R78, R156; spelled in
ClockTickCounts); that they are made in the order staleness of A, of B, expiry, stir of A, of B is the model's choice (log 9), on which the
order of the MANIFOLD_STALE and MODE records rests. That the expiry test is made also where the timeout is left at its figure is the
model's choice (log 40): R156 makes it each time LINE_SET changes the timeout. -/
def Obligations.LineSetClamps : Prop :=
  ∀ (s : State) (i d1 d0 h p t1 t0 l0 l1 l2 l3 n : Byte),
    let body := [i, d1, d0, h, p, t1, t0, l0, l1, l2, l3, n]
    let fit (lo hi x : Nat) := if x < lo then lo else if hi < x then hi else x
    let i' := fit 10 240 i.toNat
    let d' := fit 30 300 (beNat [d1, d0])
    let p' := fit 1 10 p.toNat
    let t' := fit 30 3600 (beNat [t1, t0])
    let lim (x : Byte) := fit 10 200 x.toNat
    let set : Settings :=
      { stirInterval := i', stirDuration := d', heartbeat := decide (1 ≤ h.toNat), tolerance := p', idleTimeout := t',
        loadLimits := #v[lim l0, lim l1, lim l2, lim l3], notifyAll := decide (1 ≤ n.toNat) }
    s.link.serves RequestKind.lineSet.code body = true →
    exec (.lineSet body) s = .next (State.answered
      (State.clockTests { s.beginService with line := { s.line with settings := set } }) .lineSet
      (if i' = i.toNat ∧ d' = beNat [d1, d0] ∧ h.toNat ≤ 1 ∧ p' = p.toNat ∧ t' = beNat [t1, t0] ∧ lim l0 = l0.toNat ∧
          lim l1 = l1.toNat ∧ lim l2 = l2.toNat ∧ lim l3 = l3.toNat ∧ n.toNat ≤ 1 then .ok else .clamped)
      (enc1 i' ++ enc2 d' ++ [if 1 ≤ h.toNat then 1 else 0] ++ enc1 p' ++ enc2 t' ++ enc1 (lim l0) ++ enc1 (lim l1)
        ++ enc1 (lim l2) ++ enc1 (lim l3) ++ [if 1 ≤ n.toNat then 1 else 0]))

/-- LINE_MODE by the mode requested and the line mode: any other mode is refused BAD_FIELD 1; in HALTED the answer is WRONG_STATE; RUN and
QUIET set the working mode and wake, keep or switch the line; SLEEP is taken by an idle line and otherwise DECLINED; the replies carry the
line mode and the working mode as they stand after the request (R157, R158). Each change of the mode posts MODE with the new mode's code;
on entry into STANDBY and SLEEP the tare becomes invalid, an EMPTY station becoming TARE_WAIT, and the weigh cell's tracking is cleared;
the zero, the working mode and the other blocks' records stand (R82, R84, R154). A switch between RUN and QUIET leaves the idle timer as it
stands; entry into SLEEP and into WAKING stops it at 0 (R156). That the three rows which share this kind have one meaning, by the mode in
the body, is the model's choice (log 4); that SLEEP taken in the wake which LINE_RESUME began leaves the halted flags of the station, the
mixers and the press as they stand is the model's reading (log 17, DEDUCED). -/
def Obligations.LineModeTable : Prop :=
  ∀ (s : State) (x : Byte), s.link.serves RequestKind.lineMode.code [x] = true →
    let b := s.beginService
    let go := exec (.lineModeRun [x]) s
    let code : LineMode → Byte := fun m => match m with
      | .run => 1
      | .quiet => 2
      | .standby => 3
      | .sleep => 4
      | .waking => 5
      | .halted => 6
    let w0 := code s.line.working.line
    (exec (.lineModeQuiet [x]) s = go ∧ exec (.lineModeSleep [x]) s = go) ∧
    (∀ (v : State) (m : LineMode), m ≠ .halted →
      let unpowered := m = .standby ∨ m = .sleep
      (∀ e, e = v.enterMode m →
        e.line = { v.line with mode := m } ∧ e.reports = (v.post .mode (code m).toNat 0 0).reports ∧
        (∃ a : Bool, e.link = { v.link with attn := a }) ∧
        (unpowered → e.weigh = { v.weigh with tareValid := false, window := [], tracked := 0, strayMs := none } ∧
          (v.station.state = .empty → e.station = { v.station with state := .tareWait }) ∧
          (v.station.state ≠ .empty → e.station = v.station)) ∧
        (¬ unpowered → e.weigh = v.weigh ∧ e.station = v.station) ∧
        e.orders = v.orders ∧ e.bank = v.bank ∧ e.drives = v.drives ∧ e.rack = v.rack ∧ e.mixers = v.mixers ∧
        e.press = v.press ∧ e.magazines = v.magazines ∧ e.pending = v.pending)) ∧
    (∀ (v : State) (m : LineMode) (e : State), (m = .waking ∧ e = v.startWake) ∨ (m = .sleep ∧ e = v.startSleep) →
      e = { v.enterMode m with line := { v.line with
        mode := m, idle := { elapsed := 0, running := false }, resumeWake := false } }) ∧
    (x ≠ 1 → x ≠ 2 → x ≠ 4 → go = .next (b.answered .lineMode .badField [1, 0])) ∧
    (x = 1 ∨ x = 2 ∨ x = 4 → s.line.mode = .halted → go = .next (b.answered .lineMode .wrongState [6, w0])) ∧
    (∀ w : WorkMode, x = (if w = .run then 1 else 2) →
      let set : State := { b with line := { s.line with working := w } }
      (s.line.mode = .standby ∨ s.line.mode = .sleep → go = .next (set.startWake.conclude.answered .lineMode .ok [5, x])) ∧
      (s.line.mode = .waking → go = .next (set.answered .lineMode .ok [5, x])) ∧
      (s.line.mode = .run ∨ s.line.mode = .quiet → s.line.mode = w.line → go = .next (set.answered .lineMode .ok [x, x])) ∧
      (s.line.mode = .run ∨ s.line.mode = .quiet → s.line.mode ≠ w.line →
        go = .next ((set.enterMode w.line).conclude.answered .lineMode .ok [x, x]))) ∧
    (x = 4 →
      (s.line.mode = .sleep → go = .next (b.answered .lineMode .ok [4, w0])) ∧
      (s.line.mode ≠ .sleep → s.line.mode ≠ .halted → s.line.presence.idle = true →
        go = .next (b.startSleep.conclude.answered .lineMode .ok [4, w0])) ∧
      (s.line.mode ≠ .sleep → s.line.mode ≠ .halted → s.line.presence.idle = false →
        go = .next (b.answered .lineMode .declined [code s.line.mode, w0])))

/-- An assertion of E-STOP: the line is HALTED with the mode saved (a wake as the working mode, a halt as it stood), the input ASSERTED,
the idle timer stopped with its elapsed kept, every block's halted flag set and no drive in motion, no job's state changed; ESTOP is
posted, and MODE after it unless the line was HALTED already (R76, R105, R135, R148, R156, R160). A run in progress ends with cause ESTOP:
its steps pumped are added to its dose's delivered steps, its bank takes the run end, and the round, marked interrupted, records it without
a settle (R76, R94, R105; the run end is spelled in RunEndAndVerdictNotices). A top-up due in WAIT_DRIVE is abandoned (R99, R105;
TopUpRequestAnswered). That these are written into the job's record at the assertion, though R12 says that an assertion changes no job
record, is the model's choice (log 39). With neither, the bank, the orders, the round and the reports before ESTOP stand. That drive A's
run ends before drive B's, and that ESTOP and MODE stand after the records of the run ends, are the model's choices (log 19), as is that a
RUNNING mixer, whose run elapsed is discarded, holds 0 during the halt (log 38). A release sets the input RELEASED and nothing else (R160).
-/
def Obligations.EstopHaltsTheLine : Prop :=
  (∀ s : State, ∃ u : State,
    exec .estopAssertion s = .next (if s.line.mode = .halted then u.post .estop 1 0 0
      else (u.post .estop 1 0 0).post .mode 6 0 0) ∧
    u.line.mode = .halted ∧ u.line.estop = true ∧
    u.line.saved = (match s.line.mode with
      | .halted => s.line.saved
      | .waking => some s.line.working.line
      | m => some m) ∧
    u.line.idle = { elapsed := s.line.idle.elapsed, running := false } ∧ u.line.working = s.line.working ∧
    u.line.settings = s.line.settings ∧ u.line.clock = s.line.clock ∧
    (∀ m, (u.drive m).halted = true ∧ (u.drive m).atRest ∧ (u.drive m).stirClock = (s.drive m).stirClock ∧
      (u.drive m).stale = (s.drive m).stale) ∧
    (∀ k, (u.mixer k).halted = true ∧ (u.mixer k).tag = (s.mixer k).tag ∧ (u.mixer k).mixTime = (s.mixer k).mixTime ∧
      (∀ e, (s.mixer k).state = .running e → (u.mixer k).state = .running 0) ∧
      ((∀ e, (s.mixer k).state ≠ .running e) → (u.mixer k).state = (s.mixer k).state)) ∧
    u.mixers.lane = s.mixers.lane ∧ u.mixers.heldPlace = s.mixers.heldPlace ∧
    u.station.halted = true ∧ u.station.state = s.station.state ∧ u.station.job = s.station.job ∧
    u.press = { s.press with halted := true } ∧ u.rack = s.rack ∧ u.magazines = s.magazines ∧
    u.orders.jobs.map (·.state) = s.orders.jobs.map (·.state) ∧
    (let halting : State := { s with
       station := { s.station with halted := true }
       line := { s.line with
         estop := true, mode := .halted, saved := u.line.saved, idle := { s.line.idle with running := false }, resumeWake := false } }
     let ended := (halting.endRun .a .idle .estop).endRun .b .idle .estop
     (∀ f, s.station.state = .waitDrive → s.station.firstRound = some f →
       u.bank = (ended.abandonTopUp f).bank ∧ u.orders = (ended.abandonTopUp f).orders ∧
       u.station = (ended.abandonTopUp f).station ∧ u.reports = (ended.abandonTopUp f).reports) ∧
     (s.station.state ≠ .waitDrive ∨ s.station.firstRound = none →
       u.bank = ended.bank ∧ u.orders = ended.orders ∧ u.station = ended.station ∧ u.reports = ended.reports)) ∧
    (∀ m r, (s.drive m).state = .dosing r → (∀ k, k ≠ m → ∀ x, (s.drive k).state ≠ .dosing x) → s.station.state = .dosing →
      u.orders.jobs = s.orders.jobs.map (fun j => if j.tag = r.tag ∧ j.finished = false then
        { j with doses := j.doses.map (fun d =>
          if d.code = r.code then { d with delivered := d.delivered + r.pumped } else d) } else j) ∧
      u.bank = (s.bankRunEnd r.canister r.pumped r.topUp).bank ∧ u.reports = (s.bankRunEnd r.canister r.pumped r.topUp).reports ∧
      u.station = { s.station with
        halted := true
        round := s.station.round.map (fun q => { q with
          interrupted := true
          runs := q.runs.map (fun x => if x.canister = r.canister ∧ x.ended = none then
            { x with ended := some { pumped := r.pumped, cause := .estop } } else x) }) }) ∧
    ((∀ m r, (s.drive m).state ≠ .dosing r) → (s.station.state ≠ .waitDrive ∨ s.station.firstRound = none) →
      u.bank = s.bank ∧ u.orders = s.orders ∧ u.reports = s.reports ∧ u.station = { s.station with halted := true })) ∧
  (∀ s : State, exec .estopRelease s = .next { s with line := { s.line with estop := false } })

/-- LINE_RESUME: WRONG_STATE outside HALTED, ESTOP_ACTIVE while the input is ASSERTED; an accepted resume clears the drives' halted flags
and the saved mode, posts ESTOP and MODE, and enters WAKING, or the saved STANDBY or SLEEP where the line is idle (R77, R161). -/
def Obligations.LineResumeTable : Prop :=
  ∀ s : State, s.link.serves RequestKind.lineResume.code [] = true →
    let b := s.beginService
    let entered : LineMode := match s.line.saved with
      | some .run | some .quiet => .waking
      | some .sleep => if s.line.presence.idle then .sleep else .waking
      | _ => if s.line.presence.idle then .standby else .waking
    (s.line.mode ≠ .halted → exec (.lineResume []) s = .next (b.answered .lineResume .wrongState [])) ∧
    (s.line.mode = .halted → s.line.estop = true → exec (.lineResume []) s = .next (b.answered .lineResume .estopActive [])) ∧
    (s.line.mode = .halted → s.line.estop = false → ∃ u : State,
      exec (.lineResume []) s = .next (u.conclude.answered .lineResume .ok
        (enc1 entered.code ++ enc1 s.line.working.line.code)) ∧
      u.line.mode = entered ∧ u.line.saved = none ∧ u.line.working = s.line.working ∧
      (∀ m, u.drive m = { s.drive m with halted := false }) ∧
      (entered = .waking ∨ s.press.state ≠ .reseating →
        u.reports = ((b.post .estop 2 0 0).post .mode entered.code 0 0).reports) ∧
      (entered = .waking → u.line.idle = s.line.idle ∧ u.station = s.station ∧ u.mixers = s.mixers ∧ u.press = s.press) ∧
      (entered ≠ .waking → u.line.idle = { elapsed := 0, running := false } ∧ u.station.halted = false ∧
        (∀ k, (u.mixer k).halted = false) ∧ u.press.halted = false))

/-- RESET is refused OCCUPIED while a tin flag is set or a mixer is in FAULT. An accepted RESET empties the Order Table, the lanes, the
rack, the Report Queue, the receive buffer and the action count, clears the reservations and tests SHORT canisters, keeps the accounts, the
drives, the magazine counts, the zero, the settings and the clock, and leaves the line in STANDBY, or HALTED while E-STOP is asserted (R24,
R63, R80, R108, R123, R138, R150, R151, R162, R165, R172, R182). -/
def Obligations.ResetTable : Prop :=
  ∀ s : State, s.link.serves RequestKind.reset.code [] = true →
    let p := s.line.presence
    let occupied := p.tinAtStation = true ∨ p.tinInMix = true ∨ p.tinInLid = true ∨ (∃ k, (s.mixer k).state = .fault)
    let e := s.line.estop
    (occupied → exec (.reset []) s = .next (s.beginService.answered .reset .occupied [])) ∧
    (¬ occupied → ∃ t, exec (.reset []) s = .next t ∧
      t.orders = { jobs := [], admissionCounter := 0, finishCounter := 0 } ∧
      (∀ c, t.canister c = Canister.retest { s.canister c with reserved := 0, offlinePending := false }) ∧
      (∀ m, (t.drive m).stirClock = (s.drive m).stirClock ∧ (t.drive m).stale = (s.drive m).stale ∧ (t.drive m).halted = e ∧
        (∀ a n, (s.drive m).state = .stirring a n → (t.drive m).state = .stirring a n) ∧
        (∀ f, (s.drive m).state = .faulted f → (t.drive m).state = .faulted f)) ∧
      t.station = { state := .tareWait, job := none, readingBefore := none, round := none, firstRound := none,
                    transfer := none, halted := e } ∧
      t.weigh.zero = s.weigh.zero ∧ t.weigh.tareValid = false ∧ t.weigh.tracked = 0 ∧ t.weigh.window = [] ∧
      t.weigh.strayMs = none ∧ (∀ i : ShelfId, t.rack.shelves[i] = .free) ∧ t.rack.parkCounter = 0 ∧
      t.mixers.lane = [] ∧ t.mixers.heldPlace = false ∧
      (∀ k, t.mixer k = { state := .idle, tag := none, mixTime := none, lidLanePlace := false, cycleCount := 0, halted := e }) ∧
      t.press = { lane := [], heldPlaces := 0, state := .idle, tag := none, lidInHead := false, failures := 0, halted := e } ∧
      t.magazines = s.magazines ∧ t.reports = { queue := [], overflow := 0 } ∧
      t.line.mode = (if e then .halted else .standby) ∧ t.line.saved = (if e then some .standby else none) ∧
      t.line.working = .run ∧ t.line.estop = e ∧ t.line.idle = { elapsed := 0, running := false } ∧
      t.line.presence = { jobsQueued := false, tinAtStation := false, tinInMix := false, tinInLid := false } ∧
      t.line.settings = s.line.settings ∧ t.line.clock = s.line.clock ∧
      t.link = { assembler := .hunt, service := [], actionCount := 0, attn := false,
                 reply := some { kind := 0xFF, code := 0x00, count := 0, fields := [] } } ∧
      t.pending = s.pending)

/-- The idle timer's expiry takes the line to STANDBY with the timer stopped at 0, the tare invalid and MODE posted, and nothing happens
before its elapsed reaches the timeout (R84, R156). The end of the wake enters the working mode and posts MODE (R154, R157); the idle timer
runs where the line is idle, from the elapsed that a halt kept where LINE_RESUME began the wake and from 0 otherwise, and stands stopped at
0 where it is not (R156). The station, the mixers and the press clear their halted flags: a round whose runs have all ended is settled
(R106), a mixer's run restarts from 0 (R136), and a reseat without a lid in head draws one, STOCK_OUT being posted after MODE where it was
the last, or waits for a lid where there is none (R149, R151). Outside WAKING the end of the wake changes nothing (log 7: the model's
choice). -/
def Obligations.IdleExpiryAndWakeEnd : Prop :=
  (∀ s : State, s.line.idle.running = true → s.line.settings.idleTimeout ≤ s.line.idle.elapsed →
    ∃ t, exec .idleTimerExpiry s = .next t ∧ t.line.mode = .standby ∧ t.line.idle = { elapsed := 0, running := false } ∧
      t.weigh.tareValid = false ∧ t.weigh.zero = s.weigh.zero ∧ t.reports = (s.post .mode 3 0 0).reports ∧
      (s.station.state = .empty → t.station = { s.station with state := .tareWait }) ∧
      (s.station.state ≠ .empty → t.station = s.station) ∧
      t.line.working = s.line.working ∧ t.line.settings = s.line.settings ∧ t.line.clock = s.line.clock ∧
      t.orders = s.orders ∧ t.bank = s.bank ∧ t.mixers = s.mixers ∧ t.press = s.press ∧ t.magazines = s.magazines) ∧
  (∀ s : State, s.line.idle.running = false ∨ s.line.idle.elapsed < s.line.settings.idleTimeout →
    ∃ t, exec .idleTimerExpiry s = .next t ∧ t.line = s.line ∧ t.station = s.station ∧ t.weigh = s.weigh ∧
      t.reports = s.reports ∧ t.orders = s.orders ∧ t.bank = s.bank ∧ t.mixers = s.mixers ∧ t.press = s.press ∧
      t.magazines = s.magazines ∧ t.link = s.link) ∧
  (∀ s : State, s.line.mode = .waking → ∃ u : State, exec .wakeEnd s = .next u.conclude ∧
    u.line.mode = s.line.working.line ∧ u.station.halted = false ∧ u.press.halted = false ∧
    u.line = { s.line with
      mode := s.line.working.line
      resumeWake := false
      idle := if s.line.presence.idle then { elapsed := if s.line.resumeWake then s.line.idle.elapsed else 0, running := true }
        else { elapsed := 0, running := false } } ∧
    (let ended := s.station.state = .dosing ∧ ∃ q, s.station.round = some q ∧ ∀ x ∈ q.runs, x.ended ≠ none
     (ended → u.station = { s.station with halted := false, state := .weighing .round, transfer := none }) ∧
     (¬ ended → u.station = { s.station with halted := false })) ∧
    (let posted := s.post .mode (if s.line.working = .run then 1 else 2) 0 0
     let lidless := fun j : Job => s.press.state = .reseating ∧ s.press.lidInHead = false ∧ s.pressJob = some j
     ((∀ j, ¬ lidless j) →
       u.reports = posted.reports ∧ u.magazines = s.magazines ∧ u.press = { s.press with halted := false }) ∧
     (∀ j, lidless j → 0 < s.magazines.lids[j.size] →
       u.reports = (if s.magazines.lids[j.size] = 1 then (posted.post .stockOut 0 (512 + j.size.val) 0).reports
         else posted.reports) ∧
       u.magazines = { s.magazines with lids := s.magazines.lids.set j.size.val (s.magazines.lids[j.size] - 1) } ∧
       u.press = { s.press with halted := false, lidInHead := true }) ∧
     (∀ j, lidless j → s.magazines.lids[j.size] = 0 →
       u.reports = posted.reports ∧ u.magazines = s.magazines ∧
       u.press = { s.press with halted := false, state := .waitLid .retry })) ∧
    (∀ k, (u.mixer k).halted = false ∧ (u.mixer k).tag = (s.mixer k).tag ∧
      (∀ e, (s.mixer k).state = .running e → (u.mixer k).state = .running 0) ∧
      ((∀ e, (s.mixer k).state ≠ .running e) → (u.mixer k).state = (s.mixer k).state)) ∧
    u.line.working = s.line.working ∧ u.line.settings = s.line.settings ∧ u.line.clock = s.line.clock ∧
    u.orders = s.orders ∧ u.bank = s.bank ∧ u.drives = s.drives ∧ u.rack = s.rack ∧ u.weigh.zero = s.weigh.zero ∧
    u.weigh = s.weigh ∧ u.mixers.lane = s.mixers.lane ∧ u.mixers.heldPlace = s.mixers.heldPlace ∧ u.pending = s.pending) ∧
  (∀ s : State, s.line.mode ≠ .waking → exec .wakeEnd s = .next s)
end

