-- ==== Sys2Proof/Laws/State.lean ====
section
/-! SUPPORT. One lemma for each field under each record update of the shared operations, true by unfolding, so that no proof opens an
update. -/

namespace Sys2Proof.Machine

/-! ## setDrive -/

@[simp] theorem State.setDrive_orders (s : State) (m : Manifold) (d : Drive) : (s.setDrive m d).orders = s.orders := by cases m <;> rfl
@[simp] theorem State.setDrive_bank (s : State) (m : Manifold) (d : Drive) : (s.setDrive m d).bank = s.bank := by cases m <;> rfl
@[simp] theorem State.setDrive_station (s : State) (m : Manifold) (d : Drive) : (s.setDrive m d).station = s.station := by cases m <;> rfl
@[simp] theorem State.setDrive_weigh (s : State) (m : Manifold) (d : Drive) : (s.setDrive m d).weigh = s.weigh := by cases m <;> rfl
@[simp] theorem State.setDrive_rack (s : State) (m : Manifold) (d : Drive) : (s.setDrive m d).rack = s.rack := by cases m <;> rfl
@[simp] theorem State.setDrive_mixers (s : State) (m : Manifold) (d : Drive) : (s.setDrive m d).mixers = s.mixers := by cases m <;> rfl
@[simp] theorem State.setDrive_press (s : State) (m : Manifold) (d : Drive) : (s.setDrive m d).press = s.press := by cases m <;> rfl
@[simp] theorem State.setDrive_magazines (s : State) (m : Manifold) (d : Drive) : (s.setDrive m d).magazines = s.magazines := by cases m <;> rfl
@[simp] theorem State.setDrive_reports (s : State) (m : Manifold) (d : Drive) : (s.setDrive m d).reports = s.reports := by cases m <;> rfl
@[simp] theorem State.setDrive_line (s : State) (m : Manifold) (d : Drive) : (s.setDrive m d).line = s.line := by cases m <;> rfl
@[simp] theorem State.setDrive_link (s : State) (m : Manifold) (d : Drive) : (s.setDrive m d).link = s.link := by cases m <;> rfl
@[simp] theorem State.setDrive_pending (s : State) (m : Manifold) (d : Drive) : (s.setDrive m d).pending = s.pending := by cases m <;> rfl

/-! ## setMixer -/

@[simp] theorem State.setMixer_orders (s : State) (k : MixerId) (x : Mixer) : (s.setMixer k x).orders = s.orders := by cases k <;> rfl
@[simp] theorem State.setMixer_bank (s : State) (k : MixerId) (x : Mixer) : (s.setMixer k x).bank = s.bank := by cases k <;> rfl
@[simp] theorem State.setMixer_drives (s : State) (k : MixerId) (x : Mixer) : (s.setMixer k x).drives = s.drives := by cases k <;> rfl
@[simp] theorem State.setMixer_station (s : State) (k : MixerId) (x : Mixer) : (s.setMixer k x).station = s.station := by cases k <;> rfl
@[simp] theorem State.setMixer_weigh (s : State) (k : MixerId) (x : Mixer) : (s.setMixer k x).weigh = s.weigh := by cases k <;> rfl
@[simp] theorem State.setMixer_rack (s : State) (k : MixerId) (x : Mixer) : (s.setMixer k x).rack = s.rack := by cases k <;> rfl
@[simp] theorem State.setMixer_press (s : State) (k : MixerId) (x : Mixer) : (s.setMixer k x).press = s.press := by cases k <;> rfl
@[simp] theorem State.setMixer_magazines (s : State) (k : MixerId) (x : Mixer) : (s.setMixer k x).magazines = s.magazines := by cases k <;> rfl
@[simp] theorem State.setMixer_reports (s : State) (k : MixerId) (x : Mixer) : (s.setMixer k x).reports = s.reports := by cases k <;> rfl
@[simp] theorem State.setMixer_line (s : State) (k : MixerId) (x : Mixer) : (s.setMixer k x).line = s.line := by cases k <;> rfl
@[simp] theorem State.setMixer_link (s : State) (k : MixerId) (x : Mixer) : (s.setMixer k x).link = s.link := by cases k <;> rfl
@[simp] theorem State.setMixer_pending (s : State) (k : MixerId) (x : Mixer) : (s.setMixer k x).pending = s.pending := by cases k <;> rfl

/-! ## setCanister -/

@[simp] theorem State.setCanister_orders (s : State) (c : CanisterId) (k : Canister) : (s.setCanister c k).orders = s.orders := rfl
@[simp] theorem State.setCanister_drives (s : State) (c : CanisterId) (k : Canister) : (s.setCanister c k).drives = s.drives := rfl
@[simp] theorem State.setCanister_station (s : State) (c : CanisterId) (k : Canister) : (s.setCanister c k).station = s.station := rfl
@[simp] theorem State.setCanister_weigh (s : State) (c : CanisterId) (k : Canister) : (s.setCanister c k).weigh = s.weigh := rfl
@[simp] theorem State.setCanister_rack (s : State) (c : CanisterId) (k : Canister) : (s.setCanister c k).rack = s.rack := rfl
@[simp] theorem State.setCanister_mixers (s : State) (c : CanisterId) (k : Canister) : (s.setCanister c k).mixers = s.mixers := rfl
@[simp] theorem State.setCanister_press (s : State) (c : CanisterId) (k : Canister) : (s.setCanister c k).press = s.press := rfl
@[simp] theorem State.setCanister_magazines (s : State) (c : CanisterId) (k : Canister) : (s.setCanister c k).magazines = s.magazines := rfl
@[simp] theorem State.setCanister_reports (s : State) (c : CanisterId) (k : Canister) : (s.setCanister c k).reports = s.reports := rfl
@[simp] theorem State.setCanister_line (s : State) (c : CanisterId) (k : Canister) : (s.setCanister c k).line = s.line := rfl
@[simp] theorem State.setCanister_link (s : State) (c : CanisterId) (k : Canister) : (s.setCanister c k).link = s.link := rfl
@[simp] theorem State.setCanister_pending (s : State) (c : CanisterId) (k : Canister) : (s.setCanister c k).pending = s.pending := rfl

/-! ## setShelf -/

@[simp] theorem State.setShelf_orders (s : State) (i : ShelfId) (x : Shelf) : (s.setShelf i x).orders = s.orders := rfl
@[simp] theorem State.setShelf_bank (s : State) (i : ShelfId) (x : Shelf) : (s.setShelf i x).bank = s.bank := rfl
@[simp] theorem State.setShelf_drives (s : State) (i : ShelfId) (x : Shelf) : (s.setShelf i x).drives = s.drives := rfl
@[simp] theorem State.setShelf_station (s : State) (i : ShelfId) (x : Shelf) : (s.setShelf i x).station = s.station := rfl
@[simp] theorem State.setShelf_weigh (s : State) (i : ShelfId) (x : Shelf) : (s.setShelf i x).weigh = s.weigh := rfl
@[simp] theorem State.setShelf_mixers (s : State) (i : ShelfId) (x : Shelf) : (s.setShelf i x).mixers = s.mixers := rfl
@[simp] theorem State.setShelf_press (s : State) (i : ShelfId) (x : Shelf) : (s.setShelf i x).press = s.press := rfl
@[simp] theorem State.setShelf_magazines (s : State) (i : ShelfId) (x : Shelf) : (s.setShelf i x).magazines = s.magazines := rfl
@[simp] theorem State.setShelf_reports (s : State) (i : ShelfId) (x : Shelf) : (s.setShelf i x).reports = s.reports := rfl
@[simp] theorem State.setShelf_line (s : State) (i : ShelfId) (x : Shelf) : (s.setShelf i x).line = s.line := rfl
@[simp] theorem State.setShelf_link (s : State) (i : ShelfId) (x : Shelf) : (s.setShelf i x).link = s.link := rfl
@[simp] theorem State.setShelf_pending (s : State) (i : ShelfId) (x : Shelf) : (s.setShelf i x).pending = s.pending := rfl

/-! ## setPress -/

@[simp] theorem State.setPress_orders (s : State) (x : PressState) : (s.setPress x).orders = s.orders := rfl
@[simp] theorem State.setPress_bank (s : State) (x : PressState) : (s.setPress x).bank = s.bank := rfl
@[simp] theorem State.setPress_drives (s : State) (x : PressState) : (s.setPress x).drives = s.drives := rfl
@[simp] theorem State.setPress_station (s : State) (x : PressState) : (s.setPress x).station = s.station := rfl
@[simp] theorem State.setPress_weigh (s : State) (x : PressState) : (s.setPress x).weigh = s.weigh := rfl
@[simp] theorem State.setPress_rack (s : State) (x : PressState) : (s.setPress x).rack = s.rack := rfl
@[simp] theorem State.setPress_mixers (s : State) (x : PressState) : (s.setPress x).mixers = s.mixers := rfl
@[simp] theorem State.setPress_magazines (s : State) (x : PressState) : (s.setPress x).magazines = s.magazines := rfl
@[simp] theorem State.setPress_reports (s : State) (x : PressState) : (s.setPress x).reports = s.reports := rfl
@[simp] theorem State.setPress_line (s : State) (x : PressState) : (s.setPress x).line = s.line := rfl
@[simp] theorem State.setPress_link (s : State) (x : PressState) : (s.setPress x).link = s.link := rfl
@[simp] theorem State.setPress_pending (s : State) (x : PressState) : (s.setPress x).pending = s.pending := rfl

/-! ## setSettings -/

@[simp] theorem State.setSettings_orders (s : State) (t : Settings) : (s.setSettings t).orders = s.orders := rfl
@[simp] theorem State.setSettings_bank (s : State) (t : Settings) : (s.setSettings t).bank = s.bank := rfl
@[simp] theorem State.setSettings_drives (s : State) (t : Settings) : (s.setSettings t).drives = s.drives := rfl
@[simp] theorem State.setSettings_station (s : State) (t : Settings) : (s.setSettings t).station = s.station := rfl
@[simp] theorem State.setSettings_weigh (s : State) (t : Settings) : (s.setSettings t).weigh = s.weigh := rfl
@[simp] theorem State.setSettings_rack (s : State) (t : Settings) : (s.setSettings t).rack = s.rack := rfl
@[simp] theorem State.setSettings_mixers (s : State) (t : Settings) : (s.setSettings t).mixers = s.mixers := rfl
@[simp] theorem State.setSettings_press (s : State) (t : Settings) : (s.setSettings t).press = s.press := rfl
@[simp] theorem State.setSettings_magazines (s : State) (t : Settings) : (s.setSettings t).magazines = s.magazines := rfl
@[simp] theorem State.setSettings_reports (s : State) (t : Settings) : (s.setSettings t).reports = s.reports := rfl
@[simp] theorem State.setSettings_link (s : State) (t : Settings) : (s.setSettings t).link = s.link := rfl
@[simp] theorem State.setSettings_pending (s : State) (t : Settings) : (s.setSettings t).pending = s.pending := rfl

/-! ## setStock -/

@[simp] theorem State.setStock_orders (s : State) (i : Item) (z : Size) (n : Nat) : (s.setStock i z n).orders = s.orders := by cases i <;> rfl
@[simp] theorem State.setStock_bank (s : State) (i : Item) (z : Size) (n : Nat) : (s.setStock i z n).bank = s.bank := by cases i <;> rfl
@[simp] theorem State.setStock_drives (s : State) (i : Item) (z : Size) (n : Nat) : (s.setStock i z n).drives = s.drives := by cases i <;> rfl
@[simp] theorem State.setStock_station (s : State) (i : Item) (z : Size) (n : Nat) : (s.setStock i z n).station = s.station := by cases i <;> rfl
@[simp] theorem State.setStock_weigh (s : State) (i : Item) (z : Size) (n : Nat) : (s.setStock i z n).weigh = s.weigh := by cases i <;> rfl
@[simp] theorem State.setStock_rack (s : State) (i : Item) (z : Size) (n : Nat) : (s.setStock i z n).rack = s.rack := by cases i <;> rfl
@[simp] theorem State.setStock_mixers (s : State) (i : Item) (z : Size) (n : Nat) : (s.setStock i z n).mixers = s.mixers := by cases i <;> rfl
@[simp] theorem State.setStock_press (s : State) (i : Item) (z : Size) (n : Nat) : (s.setStock i z n).press = s.press := by cases i <;> rfl
@[simp] theorem State.setStock_reports (s : State) (i : Item) (z : Size) (n : Nat) : (s.setStock i z n).reports = s.reports := by cases i <;> rfl
@[simp] theorem State.setStock_line (s : State) (i : Item) (z : Size) (n : Nat) : (s.setStock i z n).line = s.line := by cases i <;> rfl
@[simp] theorem State.setStock_link (s : State) (i : Item) (z : Size) (n : Nat) : (s.setStock i z n).link = s.link := by cases i <;> rfl
@[simp] theorem State.setStock_pending (s : State) (i : Item) (z : Size) (n : Nat) : (s.setStock i z n).pending = s.pending := by cases i <;> rfl

/-! ## startReject -/

@[simp] theorem State.startReject_orders (s : State)  : s.startReject.orders = s.orders := rfl
@[simp] theorem State.startReject_bank (s : State)  : s.startReject.bank = s.bank := rfl
@[simp] theorem State.startReject_drives (s : State)  : s.startReject.drives = s.drives := rfl
@[simp] theorem State.startReject_weigh (s : State)  : s.startReject.weigh = s.weigh := rfl
@[simp] theorem State.startReject_rack (s : State)  : s.startReject.rack = s.rack := rfl
@[simp] theorem State.startReject_mixers (s : State)  : s.startReject.mixers = s.mixers := rfl
@[simp] theorem State.startReject_press (s : State)  : s.startReject.press = s.press := rfl
@[simp] theorem State.startReject_magazines (s : State)  : s.startReject.magazines = s.magazines := rfl
@[simp] theorem State.startReject_reports (s : State)  : s.startReject.reports = s.reports := rfl
@[simp] theorem State.startReject_line (s : State)  : s.startReject.line = s.line := rfl
@[simp] theorem State.startReject_link (s : State)  : s.startReject.link = s.link := rfl
@[simp] theorem State.startReject_pending (s : State)  : s.startReject.pending = s.pending := rfl

/-! ## startSettle -/

@[simp] theorem State.startSettle_orders (s : State) (p : SettleFor) : (s.startSettle p).orders = s.orders := rfl
@[simp] theorem State.startSettle_bank (s : State) (p : SettleFor) : (s.startSettle p).bank = s.bank := rfl
@[simp] theorem State.startSettle_drives (s : State) (p : SettleFor) : (s.startSettle p).drives = s.drives := rfl
@[simp] theorem State.startSettle_weigh (s : State) (p : SettleFor) : (s.startSettle p).weigh = s.weigh := rfl
@[simp] theorem State.startSettle_rack (s : State) (p : SettleFor) : (s.startSettle p).rack = s.rack := rfl
@[simp] theorem State.startSettle_mixers (s : State) (p : SettleFor) : (s.startSettle p).mixers = s.mixers := rfl
@[simp] theorem State.startSettle_press (s : State) (p : SettleFor) : (s.startSettle p).press = s.press := rfl
@[simp] theorem State.startSettle_magazines (s : State) (p : SettleFor) : (s.startSettle p).magazines = s.magazines := rfl
@[simp] theorem State.startSettle_reports (s : State) (p : SettleFor) : (s.startSettle p).reports = s.reports := rfl
@[simp] theorem State.startSettle_line (s : State) (p : SettleFor) : (s.startSettle p).line = s.line := rfl
@[simp] theorem State.startSettle_link (s : State) (p : SettleFor) : (s.startSettle p).link = s.link := rfl
@[simp] theorem State.startSettle_pending (s : State) (p : SettleFor) : (s.startSettle p).pending = s.pending := rfl

/-! ## stationEmpty -/

@[simp] theorem State.stationEmpty_orders (s : State)  : s.stationEmpty.orders = s.orders := rfl
@[simp] theorem State.stationEmpty_bank (s : State)  : s.stationEmpty.bank = s.bank := rfl
@[simp] theorem State.stationEmpty_drives (s : State)  : s.stationEmpty.drives = s.drives := rfl
@[simp] theorem State.stationEmpty_weigh (s : State)  : s.stationEmpty.weigh = s.weigh := rfl
@[simp] theorem State.stationEmpty_rack (s : State)  : s.stationEmpty.rack = s.rack := rfl
@[simp] theorem State.stationEmpty_mixers (s : State)  : s.stationEmpty.mixers = s.mixers := rfl
@[simp] theorem State.stationEmpty_press (s : State)  : s.stationEmpty.press = s.press := rfl
@[simp] theorem State.stationEmpty_magazines (s : State)  : s.stationEmpty.magazines = s.magazines := rfl
@[simp] theorem State.stationEmpty_reports (s : State)  : s.stationEmpty.reports = s.reports := rfl
@[simp] theorem State.stationEmpty_line (s : State)  : s.stationEmpty.line = s.line := rfl
@[simp] theorem State.stationEmpty_link (s : State)  : s.stationEmpty.link = s.link := rfl
@[simp] theorem State.stationEmpty_pending (s : State)  : s.stationEmpty.pending = s.pending := rfl

/-! ## leaveEmpty -/

@[simp] theorem State.leaveEmpty_orders (s : State)  : s.leaveEmpty.orders = s.orders := rfl
@[simp] theorem State.leaveEmpty_bank (s : State)  : s.leaveEmpty.bank = s.bank := rfl
@[simp] theorem State.leaveEmpty_drives (s : State)  : s.leaveEmpty.drives = s.drives := rfl
@[simp] theorem State.leaveEmpty_station (s : State)  : s.leaveEmpty.station = s.station := rfl
@[simp] theorem State.leaveEmpty_rack (s : State)  : s.leaveEmpty.rack = s.rack := rfl
@[simp] theorem State.leaveEmpty_mixers (s : State)  : s.leaveEmpty.mixers = s.mixers := rfl
@[simp] theorem State.leaveEmpty_press (s : State)  : s.leaveEmpty.press = s.press := rfl
@[simp] theorem State.leaveEmpty_magazines (s : State)  : s.leaveEmpty.magazines = s.magazines := rfl
@[simp] theorem State.leaveEmpty_reports (s : State)  : s.leaveEmpty.reports = s.reports := rfl
@[simp] theorem State.leaveEmpty_line (s : State)  : s.leaveEmpty.line = s.line := rfl
@[simp] theorem State.leaveEmpty_link (s : State)  : s.leaveEmpty.link = s.link := rfl
@[simp] theorem State.leaveEmpty_pending (s : State)  : s.leaveEmpty.pending = s.pending := rfl

/-! ## updateLive -/

@[simp] theorem State.updateLive_bank (s : State) (t : Tag) (f : Job → Job) : (s.updateLive t f).bank = s.bank := rfl
@[simp] theorem State.updateLive_drives (s : State) (t : Tag) (f : Job → Job) : (s.updateLive t f).drives = s.drives := rfl
@[simp] theorem State.updateLive_station (s : State) (t : Tag) (f : Job → Job) : (s.updateLive t f).station = s.station := rfl
@[simp] theorem State.updateLive_weigh (s : State) (t : Tag) (f : Job → Job) : (s.updateLive t f).weigh = s.weigh := rfl
@[simp] theorem State.updateLive_rack (s : State) (t : Tag) (f : Job → Job) : (s.updateLive t f).rack = s.rack := rfl
@[simp] theorem State.updateLive_mixers (s : State) (t : Tag) (f : Job → Job) : (s.updateLive t f).mixers = s.mixers := rfl
@[simp] theorem State.updateLive_press (s : State) (t : Tag) (f : Job → Job) : (s.updateLive t f).press = s.press := rfl
@[simp] theorem State.updateLive_magazines (s : State) (t : Tag) (f : Job → Job) : (s.updateLive t f).magazines = s.magazines := rfl
@[simp] theorem State.updateLive_reports (s : State) (t : Tag) (f : Job → Job) : (s.updateLive t f).reports = s.reports := rfl
@[simp] theorem State.updateLive_line (s : State) (t : Tag) (f : Job → Job) : (s.updateLive t f).line = s.line := rfl
@[simp] theorem State.updateLive_link (s : State) (t : Tag) (f : Job → Job) : (s.updateLive t f).link = s.link := rfl
@[simp] theorem State.updateLive_pending (s : State) (t : Tag) (f : Job → Job) : (s.updateLive t f).pending = s.pending := rfl

/-! ## timerClear -/

@[simp] theorem State.timerClear_orders (s : State)  : s.timerClear.orders = s.orders := rfl
@[simp] theorem State.timerClear_bank (s : State)  : s.timerClear.bank = s.bank := rfl
@[simp] theorem State.timerClear_drives (s : State)  : s.timerClear.drives = s.drives := rfl
@[simp] theorem State.timerClear_station (s : State)  : s.timerClear.station = s.station := rfl
@[simp] theorem State.timerClear_weigh (s : State)  : s.timerClear.weigh = s.weigh := rfl
@[simp] theorem State.timerClear_rack (s : State)  : s.timerClear.rack = s.rack := rfl
@[simp] theorem State.timerClear_mixers (s : State)  : s.timerClear.mixers = s.mixers := rfl
@[simp] theorem State.timerClear_press (s : State)  : s.timerClear.press = s.press := rfl
@[simp] theorem State.timerClear_magazines (s : State)  : s.timerClear.magazines = s.magazines := rfl
@[simp] theorem State.timerClear_reports (s : State)  : s.timerClear.reports = s.reports := rfl
@[simp] theorem State.timerClear_link (s : State)  : s.timerClear.link = s.link := rfl
@[simp] theorem State.timerClear_pending (s : State)  : s.timerClear.pending = s.pending := rfl

/-! ## unhaltDrives -/

@[simp] theorem State.unhaltDrives_orders (s : State)  : s.unhaltDrives.orders = s.orders := rfl
@[simp] theorem State.unhaltDrives_bank (s : State)  : s.unhaltDrives.bank = s.bank := rfl
@[simp] theorem State.unhaltDrives_station (s : State)  : s.unhaltDrives.station = s.station := rfl
@[simp] theorem State.unhaltDrives_weigh (s : State)  : s.unhaltDrives.weigh = s.weigh := rfl
@[simp] theorem State.unhaltDrives_rack (s : State)  : s.unhaltDrives.rack = s.rack := rfl
@[simp] theorem State.unhaltDrives_mixers (s : State)  : s.unhaltDrives.mixers = s.mixers := rfl
@[simp] theorem State.unhaltDrives_press (s : State)  : s.unhaltDrives.press = s.press := rfl
@[simp] theorem State.unhaltDrives_magazines (s : State)  : s.unhaltDrives.magazines = s.magazines := rfl
@[simp] theorem State.unhaltDrives_reports (s : State)  : s.unhaltDrives.reports = s.reports := rfl
@[simp] theorem State.unhaltDrives_line (s : State)  : s.unhaltDrives.line = s.line := rfl
@[simp] theorem State.unhaltDrives_link (s : State)  : s.unhaltDrives.link = s.link := rfl
@[simp] theorem State.unhaltDrives_pending (s : State)  : s.unhaltDrives.pending = s.pending := rfl

/-! ## mixersTakeUp -/

@[simp] theorem State.mixersTakeUp_orders (s : State)  : s.mixersTakeUp.orders = s.orders := rfl
@[simp] theorem State.mixersTakeUp_bank (s : State)  : s.mixersTakeUp.bank = s.bank := rfl
@[simp] theorem State.mixersTakeUp_drives (s : State)  : s.mixersTakeUp.drives = s.drives := rfl
@[simp] theorem State.mixersTakeUp_station (s : State)  : s.mixersTakeUp.station = s.station := rfl
@[simp] theorem State.mixersTakeUp_weigh (s : State)  : s.mixersTakeUp.weigh = s.weigh := rfl
@[simp] theorem State.mixersTakeUp_rack (s : State)  : s.mixersTakeUp.rack = s.rack := rfl
@[simp] theorem State.mixersTakeUp_press (s : State)  : s.mixersTakeUp.press = s.press := rfl
@[simp] theorem State.mixersTakeUp_magazines (s : State)  : s.mixersTakeUp.magazines = s.magazines := rfl
@[simp] theorem State.mixersTakeUp_reports (s : State)  : s.mixersTakeUp.reports = s.reports := rfl
@[simp] theorem State.mixersTakeUp_line (s : State)  : s.mixersTakeUp.line = s.line := rfl
@[simp] theorem State.mixersTakeUp_link (s : State)  : s.mixersTakeUp.link = s.link := rfl
@[simp] theorem State.mixersTakeUp_pending (s : State)  : s.mixersTakeUp.pending = s.pending := rfl

/-! ## setTopUp -/

@[simp] theorem State.setTopUp_bank (s : State) (c n : Nat) : (s.setTopUp c n).bank = s.bank := by unfold State.setTopUp; split <;> rfl
@[simp] theorem State.setTopUp_drives (s : State) (c n : Nat) : (s.setTopUp c n).drives = s.drives := by unfold State.setTopUp; split <;> rfl
@[simp] theorem State.setTopUp_station (s : State) (c n : Nat) : (s.setTopUp c n).station = s.station := by unfold State.setTopUp; split <;> rfl
@[simp] theorem State.setTopUp_weigh (s : State) (c n : Nat) : (s.setTopUp c n).weigh = s.weigh := by unfold State.setTopUp; split <;> rfl
@[simp] theorem State.setTopUp_rack (s : State) (c n : Nat) : (s.setTopUp c n).rack = s.rack := by unfold State.setTopUp; split <;> rfl
@[simp] theorem State.setTopUp_mixers (s : State) (c n : Nat) : (s.setTopUp c n).mixers = s.mixers := by unfold State.setTopUp; split <;> rfl
@[simp] theorem State.setTopUp_press (s : State) (c n : Nat) : (s.setTopUp c n).press = s.press := by unfold State.setTopUp; split <;> rfl
@[simp] theorem State.setTopUp_magazines (s : State) (c n : Nat) : (s.setTopUp c n).magazines = s.magazines := by unfold State.setTopUp; split <;> rfl
@[simp] theorem State.setTopUp_reports (s : State) (c n : Nat) : (s.setTopUp c n).reports = s.reports := by unfold State.setTopUp; split <;> rfl
@[simp] theorem State.setTopUp_line (s : State) (c n : Nat) : (s.setTopUp c n).line = s.line := by unfold State.setTopUp; split <;> rfl
@[simp] theorem State.setTopUp_link (s : State) (c n : Nat) : (s.setTopUp c n).link = s.link := by unfold State.setTopUp; split <;> rfl
@[simp] theorem State.setTopUp_pending (s : State) (c n : Nat) : (s.setTopUp c n).pending = s.pending := by unfold State.setTopUp; split <;> rfl

/-! ## beginService -/

@[simp] theorem State.beginService_orders (s : State)  : s.beginService.orders = s.orders := rfl
@[simp] theorem State.beginService_bank (s : State)  : s.beginService.bank = s.bank := rfl
@[simp] theorem State.beginService_drives (s : State)  : s.beginService.drives = s.drives := rfl
@[simp] theorem State.beginService_station (s : State)  : s.beginService.station = s.station := rfl
@[simp] theorem State.beginService_weigh (s : State)  : s.beginService.weigh = s.weigh := rfl
@[simp] theorem State.beginService_rack (s : State)  : s.beginService.rack = s.rack := rfl
@[simp] theorem State.beginService_mixers (s : State)  : s.beginService.mixers = s.mixers := rfl
@[simp] theorem State.beginService_press (s : State)  : s.beginService.press = s.press := rfl
@[simp] theorem State.beginService_magazines (s : State)  : s.beginService.magazines = s.magazines := rfl
@[simp] theorem State.beginService_reports (s : State)  : s.beginService.reports = s.reports := rfl
@[simp] theorem State.beginService_line (s : State)  : s.beginService.line = s.line := rfl
@[simp] theorem State.beginService_pending (s : State)  : s.beginService.pending = s.pending := rfl

/-! ## withReports, post -/

@[simp] theorem State.withReports_orders (s : State) (r : Reports) : (s.withReports r).orders = s.orders := rfl
@[simp] theorem State.postAs_orders (s : State) (u : Bool) (k : ReportKind) (d j v : Nat) : (s.postAs u k d j v).orders = s.orders := rfl
@[simp] theorem State.post_orders (s : State) (k : ReportKind) (d j v : Nat) : (s.post k d j v).orders = s.orders := rfl
@[simp] theorem State.withReports_bank (s : State) (r : Reports) : (s.withReports r).bank = s.bank := rfl
@[simp] theorem State.postAs_bank (s : State) (u : Bool) (k : ReportKind) (d j v : Nat) : (s.postAs u k d j v).bank = s.bank := rfl
@[simp] theorem State.post_bank (s : State) (k : ReportKind) (d j v : Nat) : (s.post k d j v).bank = s.bank := rfl
@[simp] theorem State.withReports_drives (s : State) (r : Reports) : (s.withReports r).drives = s.drives := rfl
@[simp] theorem State.postAs_drives (s : State) (u : Bool) (k : ReportKind) (d j v : Nat) : (s.postAs u k d j v).drives = s.drives := rfl
@[simp] theorem State.post_drives (s : State) (k : ReportKind) (d j v : Nat) : (s.post k d j v).drives = s.drives := rfl
@[simp] theorem State.withReports_station (s : State) (r : Reports) : (s.withReports r).station = s.station := rfl
@[simp] theorem State.postAs_station (s : State) (u : Bool) (k : ReportKind) (d j v : Nat) : (s.postAs u k d j v).station = s.station := rfl
@[simp] theorem State.post_station (s : State) (k : ReportKind) (d j v : Nat) : (s.post k d j v).station = s.station := rfl
@[simp] theorem State.withReports_weigh (s : State) (r : Reports) : (s.withReports r).weigh = s.weigh := rfl
@[simp] theorem State.postAs_weigh (s : State) (u : Bool) (k : ReportKind) (d j v : Nat) : (s.postAs u k d j v).weigh = s.weigh := rfl
@[simp] theorem State.post_weigh (s : State) (k : ReportKind) (d j v : Nat) : (s.post k d j v).weigh = s.weigh := rfl
@[simp] theorem State.withReports_rack (s : State) (r : Reports) : (s.withReports r).rack = s.rack := rfl
@[simp] theorem State.postAs_rack (s : State) (u : Bool) (k : ReportKind) (d j v : Nat) : (s.postAs u k d j v).rack = s.rack := rfl
@[simp] theorem State.post_rack (s : State) (k : ReportKind) (d j v : Nat) : (s.post k d j v).rack = s.rack := rfl
@[simp] theorem State.withReports_mixers (s : State) (r : Reports) : (s.withReports r).mixers = s.mixers := rfl
@[simp] theorem State.postAs_mixers (s : State) (u : Bool) (k : ReportKind) (d j v : Nat) : (s.postAs u k d j v).mixers = s.mixers := rfl
@[simp] theorem State.post_mixers (s : State) (k : ReportKind) (d j v : Nat) : (s.post k d j v).mixers = s.mixers := rfl
@[simp] theorem State.withReports_press (s : State) (r : Reports) : (s.withReports r).press = s.press := rfl
@[simp] theorem State.postAs_press (s : State) (u : Bool) (k : ReportKind) (d j v : Nat) : (s.postAs u k d j v).press = s.press := rfl
@[simp] theorem State.post_press (s : State) (k : ReportKind) (d j v : Nat) : (s.post k d j v).press = s.press := rfl
@[simp] theorem State.withReports_magazines (s : State) (r : Reports) : (s.withReports r).magazines = s.magazines := rfl
@[simp] theorem State.postAs_magazines (s : State) (u : Bool) (k : ReportKind) (d j v : Nat) : (s.postAs u k d j v).magazines = s.magazines := rfl
@[simp] theorem State.post_magazines (s : State) (k : ReportKind) (d j v : Nat) : (s.post k d j v).magazines = s.magazines := rfl
@[simp] theorem State.withReports_line (s : State) (r : Reports) : (s.withReports r).line = s.line := rfl
@[simp] theorem State.postAs_line (s : State) (u : Bool) (k : ReportKind) (d j v : Nat) : (s.postAs u k d j v).line = s.line := rfl
@[simp] theorem State.post_line (s : State) (k : ReportKind) (d j v : Nat) : (s.post k d j v).line = s.line := rfl
@[simp] theorem State.withReports_pending (s : State) (r : Reports) : (s.withReports r).pending = s.pending := rfl
@[simp] theorem State.postAs_pending (s : State) (u : Bool) (k : ReportKind) (d j v : Nat) : (s.postAs u k d j v).pending = s.pending := rfl
@[simp] theorem State.post_pending (s : State) (k : ReportKind) (d j v : Nat) : (s.post k d j v).pending = s.pending := rfl
@[simp] theorem State.postAs_link_assembler (s : State) (u : Bool) (k : ReportKind) (d j v : Nat) : (s.postAs u k d j v).link.assembler = s.link.assembler := rfl
@[simp] theorem State.post_link_assembler (s : State) (k : ReportKind) (d j v : Nat) : (s.post k d j v).link.assembler = s.link.assembler := rfl
@[simp] theorem State.postAs_link_service (s : State) (u : Bool) (k : ReportKind) (d j v : Nat) : (s.postAs u k d j v).link.service = s.link.service := rfl
@[simp] theorem State.post_link_service (s : State) (k : ReportKind) (d j v : Nat) : (s.post k d j v).link.service = s.link.service := rfl
@[simp] theorem State.postAs_link_actionCount (s : State) (u : Bool) (k : ReportKind) (d j v : Nat) : (s.postAs u k d j v).link.actionCount = s.link.actionCount := rfl
@[simp] theorem State.post_link_actionCount (s : State) (k : ReportKind) (d j v : Nat) : (s.post k d j v).link.actionCount = s.link.actionCount := rfl
@[simp] theorem State.postAs_link_reply (s : State) (u : Bool) (k : ReportKind) (d j v : Nat) : (s.postAs u k d j v).link.reply = s.link.reply := rfl
@[simp] theorem State.post_link_reply (s : State) (k : ReportKind) (d j v : Nat) : (s.post k d j v).link.reply = s.link.reply := rfl

/-! ## Reading what was written -/

@[simp] theorem State.setDrive_drive (s : State) (m n : Manifold) (d : Drive) :
    (s.setDrive m d).drive n = if n = m then d else s.drive n := by cases m <;> cases n <;> rfl

@[simp] theorem State.setMixer_mixer (s : State) (k l : MixerId) (x : Mixer) :
    (s.setMixer k x).mixer l = if l = k then x else s.mixer l := by cases k <;> cases l <;> rfl

@[simp] theorem State.setCanister_canister (s : State) (c e : CanisterId) (k : Canister) :
    (s.setCanister c k).canister e = if e = c then k else s.canister e := by
  by_cases h : e = c
  · subst h; simp [State.setCanister, State.canister]
  · have h2 : c.val ≠ e.val := fun h3 => h (Fin.ext h3.symm)
    simp [State.setCanister, State.canister, h, h2]

@[simp] theorem State.withReports_reports (s : State) (r : Reports) : (s.withReports r).reports = r := rfl

@[simp] theorem State.withReports_attn (s : State) (r : Reports) : (s.withReports r).link.attn = r.attention := rfl

/-- A command taken from the queue leaves every block as it stands. -/
theorem step_cons (c : Instr) (rest : List Instr) (s : State) (h : s.pending = c :: rest) :
    step s = exec c { s with pending := rest } := by simp [step, h]

end Sys2Proof.Machine
end

