-- ==== Sys2Proof/Laws/Keeps.lean ====
section
/-! SUPPORT. What the blocks' shared operations and the standing tests leave alone, said once: `Keeps s t` is a preorder, each shared
operation has one lemma, and the lemma of a larger operation is the composition of its parts'. -/

namespace Sys2Proof.Machine

/-- What no shared operation of a block changes, or changes in one direction only. -/
structure Keeps (s t : State) : Prop where
  clock : t.line.clock = s.line.clock
  settings : t.line.settings = s.line.settings
  working : t.line.working = s.line.working
  estop : t.line.estop = s.line.estop
  pending : t.pending = s.pending
  assembler : t.link.assembler = s.link.assembler
  service : t.link.service = s.link.service
  actionCount : t.link.actionCount = s.link.actionCount
  reply : t.link.reply = s.link.reply
  admission : t.orders.admissionCounter = s.orders.admissionCounter
  zero : t.weigh.zero = s.weigh.zero
  latest : t.weigh.latest = s.weigh.latest
  code : ∀ c, (t.canister c).code = (s.canister c).code
  density : ∀ c, (t.canister c).density = (s.canister c).density
  lowMark : ∀ c, (t.canister c).lowMark = (s.canister c).lowMark
  tripped : ∀ c, (t.canister c).tripped = (s.canister c).tripped
  usable : ∀ c, (t.canister c).usable ≤ (s.canister c).usable
  reserved : ∀ c, (t.canister c).reserved ≤ (s.canister c).reserved
  miss : ∀ c, (s.canister c).missCount ≤ 3 → (t.canister c).missCount ≤ 3
  tins : ∀ z : Size, t.magazines.tins[z] ≤ s.magazines.tins[z]
  lids : ∀ z : Size, t.magazines.lids[z] ≤ s.magazines.lids[z]
  reports : s.reportsOk → t.reportsOk
  finished : ∀ j ∈ s.orders.jobs, j.finished = true → j ∈ t.orders.jobs
  tags : t.orders.jobs.map (·.tag) = s.orders.jobs.map (·.tag)

theorem Keeps.refl (s : State) : Keeps s s :=
  { clock := rfl, settings := rfl, working := rfl, estop := rfl, pending := rfl, assembler := rfl, service := rfl,
    actionCount := rfl, reply := rfl, admission := rfl, zero := rfl, latest := rfl, code := fun _ => rfl,
    density := fun _ => rfl, lowMark := fun _ => rfl, tripped := fun _ => rfl, usable := fun _ => le_rfl,
    reserved := fun _ => le_rfl, miss := fun _ h => h, tins := fun _ => le_rfl, lids := fun _ => le_rfl,
    reports := id, finished := fun _ h _ => h, tags := rfl }

theorem Keeps.trans {s t u : State} (a : Keeps s t) (b : Keeps t u) : Keeps s u :=
  { clock := b.clock.trans a.clock, settings := b.settings.trans a.settings, working := b.working.trans a.working,
    estop := b.estop.trans a.estop, pending := b.pending.trans a.pending, assembler := b.assembler.trans a.assembler,
    service := b.service.trans a.service, actionCount := b.actionCount.trans a.actionCount, reply := b.reply.trans a.reply,
    admission := b.admission.trans a.admission, zero := b.zero.trans a.zero, latest := b.latest.trans a.latest,
    code := fun c => (b.code c).trans (a.code c), density := fun c => (b.density c).trans (a.density c),
    lowMark := fun c => (b.lowMark c).trans (a.lowMark c), tripped := fun c => (b.tripped c).trans (a.tripped c),
    usable := fun c => (b.usable c).trans (a.usable c), reserved := fun c => (b.reserved c).trans (a.reserved c),
    miss := fun c h => b.miss c (a.miss c h), tins := fun z => (b.tins z).trans (a.tins z),
    lids := fun z => (b.lids z).trans (a.lids z), reports := fun h => b.reports (a.reports h),
    finished := fun j h f => b.finished j (a.finished j h f) f, tags := b.tags.trans a.tags }

/-- A change of the station, the drives, the rack, the mixers, the press and the rest of the weigh cell and of the line keeps all. -/
theorem Keeps.of_same {s t : State} (ho : t.orders = s.orders) (hb : t.bank = s.bank) (hm : t.magazines = s.magazines)
    (hr : t.reports = s.reports) (hk : t.link = s.link) (hp : t.pending = s.pending) (hc : t.line.clock = s.line.clock)
    (hs : t.line.settings = s.line.settings) (hw : t.line.working = s.line.working) (he : t.line.estop = s.line.estop)
    (hz : t.weigh.zero = s.weigh.zero) (hl : t.weigh.latest = s.weigh.latest) : Keeps s t :=
  { clock := hc, settings := hs, working := hw, estop := he, pending := hp, assembler := by rw [hk], service := by rw [hk],
    actionCount := by rw [hk], reply := by rw [hk], admission := by rw [ho], zero := hz, latest := hl,
    code := fun c => by simp [State.canister, hb], density := fun c => by simp [State.canister, hb],
    lowMark := fun c => by simp [State.canister, hb], tripped := fun c => by simp [State.canister, hb],
    usable := fun c => by simp [State.canister, hb], reserved := fun c => by simp [State.canister, hb],
    miss := fun c h => by simpa [State.canister, hb] using h, tins := fun z => by rw [hm], lids := fun z => by rw [hm],
    reports := fun h => by simpa [State.reportsOk, hr, hk] using h, finished := fun j h _ => by rw [ho]; exact h,
    tags := by rw [ho] }

/-! ## The operations that are such changes -/

theorem keeps_setDrive (s : State) (m : Manifold) (d : Drive) : Keeps s (s.setDrive m d) :=
  Keeps.of_same (by simp) (by simp) (by simp) (by simp) (by simp) (by simp) (by simp) (by simp) (by simp) (by simp) (by simp)
    (by simp)

theorem keeps_setMixer (s : State) (k : MixerId) (x : Mixer) : Keeps s (s.setMixer k x) :=
  Keeps.of_same (by simp) (by simp) (by simp) (by simp) (by simp) (by simp) (by simp) (by simp) (by simp) (by simp) (by simp)
    (by simp)

theorem keeps_station (s : State) (x : Station) : Keeps s { s with station := x } :=
  Keeps.of_same rfl rfl rfl rfl rfl rfl rfl rfl rfl rfl rfl rfl

theorem keeps_press (s : State) (x : LidPress) : Keeps s { s with press := x } :=
  Keeps.of_same rfl rfl rfl rfl rfl rfl rfl rfl rfl rfl rfl rfl

theorem keeps_mixers (s : State) (x : MixerPool) : Keeps s { s with mixers := x } :=
  Keeps.of_same rfl rfl rfl rfl rfl rfl rfl rfl rfl rfl rfl rfl

theorem keeps_rack (s : State) (x : Rack) : Keeps s { s with rack := x } :=
  Keeps.of_same rfl rfl rfl rfl rfl rfl rfl rfl rfl rfl rfl rfl

theorem keeps_drives (s : State) (x : Drives) : Keeps s { s with drives := x } :=
  Keeps.of_same rfl rfl rfl rfl rfl rfl rfl rfl rfl rfl rfl rfl

theorem keeps_setShelf (s : State) (i : ShelfId) (x : Shelf) : Keeps s (s.setShelf i x) := keeps_rack s _

theorem keeps_setPress (s : State) (x : PressState) : Keeps s (s.setPress x) := keeps_press s _

theorem keeps_line (s : State) (l : LineControl) (hc : l.clock = s.line.clock) (hs : l.settings = s.line.settings)
    (hw : l.working = s.line.working) (he : l.estop = s.line.estop) : Keeps s { s with line := l } :=
  Keeps.of_same rfl rfl rfl rfl rfl rfl hc hs hw he rfl rfl

theorem keeps_weigh (s : State) (w : WeighCell) (hz : w.zero = s.weigh.zero) (hl : w.latest = s.weigh.latest) :
    Keeps s { s with weigh := w } :=
  Keeps.of_same rfl rfl rfl rfl rfl rfl rfl rfl rfl rfl hz hl

/-! ## Reports -/

/-- Adding to a queue of at most 64 leaves at most 64 (R166, R168). -/
theorem Reports.add_length (r : Reports) (e : Entry) (h : r.queue.length ≤ 64) : (r.add e).queue.length ≤ 64 := by
  unfold Reports.add Config.reportSlots
  split
  · simp; omega
  · split
    · rename_i h1 h2
      simp only [Bool.and_eq_true, List.any_eq_true] at h2
      obtain ⟨_, a, ha, hb⟩ := h2
      simp only [List.length_append, List.length_cons, List.length_nil, List.length_eraseP_of_mem ha (p := fun x => !x.urgent) hb]
      omega
    · exact h

/-- The overflow count stays at most 255 (R169). -/
theorem Reports.add_overflow (r : Reports) (e : Entry) (h : r.overflow ≤ 255) : (r.add e).overflow ≤ 255 := by
  unfold Reports.add
  split
  · exact h
  · split <;> simp [overflowUp, Config.overflowTop]

/-- A posting keeps the Report Queue and ATTN as they must be. -/
theorem keeps_postAs (s : State) (u : Bool) (k : ReportKind) (d j v : Nat) : Keeps s (s.postAs u k d j v) :=
  { Keeps.refl s with
    clock := rfl, settings := rfl, working := rfl, estop := rfl, pending := rfl, assembler := rfl, service := rfl,
    actionCount := rfl, reply := rfl, admission := rfl, zero := rfl, latest := rfl, code := fun _ => rfl,
    density := fun _ => rfl, lowMark := fun _ => rfl, tripped := fun _ => rfl, usable := fun _ => le_rfl,
    reserved := fun _ => le_rfl, miss := fun _ h => h, tins := fun _ => le_rfl, lids := fun _ => le_rfl,
    reports := fun h => ⟨Reports.add_length _ _ h.1, Reports.add_overflow _ _ h.2.1, rfl⟩, finished := fun _ h _ => h,
    tags := rfl }

theorem keeps_post (s : State) (k : ReportKind) (d j v : Nat) : Keeps s (s.post k d j v) := keeps_postAs s false k d j v

/-! ## Canisters -/

/-- A canister's new record is one that a shared operation may write. -/
structure Canister.Eased (k l : Canister) : Prop where
  code : l.code = k.code
  density : l.density = k.density
  lowMark : l.lowMark = k.lowMark
  tripped : l.tripped = k.tripped
  usable : l.usable ≤ k.usable
  reserved : l.reserved ≤ k.reserved
  miss : k.missCount ≤ 3 → l.missCount ≤ 3

theorem Canister.Eased.refl (k : Canister) : Canister.Eased k k := ⟨rfl, rfl, rfl, rfl, le_rfl, le_rfl, id⟩

theorem Canister.Eased.trans {k l m : Canister} (a : Eased k l) (b : Eased l m) : Eased k m :=
  ⟨b.code.trans a.code, b.density.trans a.density, b.lowMark.trans a.lowMark, b.tripped.trans a.tripped,
    b.usable.trans a.usable, b.reserved.trans a.reserved, fun h => b.miss (a.miss h)⟩

theorem keeps_setCanister (s : State) (c : CanisterId) (k : Canister) (h : Canister.Eased (s.canister c) k) :
    Keeps s (s.setCanister c k) :=
  { Keeps.refl s with
    code := fun e => by simp only [State.setCanister_canister]; split; · subst_vars; exact h.code
                        · rfl
    density := fun e => by simp only [State.setCanister_canister]; split; · subst_vars; exact h.density
                           · rfl
    lowMark := fun e => by simp only [State.setCanister_canister]; split; · subst_vars; exact h.lowMark
                           · rfl
    tripped := fun e => by simp only [State.setCanister_canister]; split; · subst_vars; exact h.tripped
                           · rfl
    usable := fun e => by simp only [State.setCanister_canister]; split; · subst_vars; exact h.usable
                          · rfl
    reserved := fun e => by simp only [State.setCanister_canister]; split; · subst_vars; exact h.reserved
                            · rfl
    miss := fun e h3 => by simp only [State.setCanister_canister]; split; · subst_vars; exact h.miss h3
                           · exact h3 }

theorem Canister.retest_eased (k : Canister) : Canister.Eased k k.retest := by
  unfold Canister.retest
  split
  · split
    · exact ⟨rfl, rfl, rfl, rfl, le_rfl, le_rfl, id⟩
    · split <;> exact ⟨rfl, rfl, rfl, rfl, le_rfl, le_rfl, id⟩
  · exact Canister.Eased.refl k

theorem Canister.charge_eased (k : Canister) (n : Nat) (u : Bool) : Canister.Eased k (k.charge n u) := by
  refine ⟨rfl, rfl, rfl, rfl, Nat.sub_le _ _, ?_, id⟩
  cases u
  · exact Nat.sub_le _ _
  · exact le_rfl

theorem Canister.reexamine_eased (k : Canister) : Canister.Eased k k.reexamine := by
  unfold Canister.reexamine
  split
  · exact ⟨rfl, rfl, rfl, rfl, le_rfl, le_rfl, id⟩
  · exact k.retest_eased

theorem Canister.completeOffline_eased (k : Canister) : Canister.Eased k k.completeOffline := by
  unfold Canister.completeOffline
  split
  · exact ⟨rfl, rfl, rfl, rfl, le_rfl, le_rfl, id⟩
  · exact Canister.Eased.refl k

theorem Canister.toCheck_eased (k : Canister) : Canister.Eased k k.toCheck := by
  unfold Canister.toCheck
  split <;> exact ⟨rfl, rfl, rfl, rfl, le_rfl, le_rfl, id⟩

theorem missAfter_le (n : Nat) (v : DoseVerdict) (h : n ≤ 3) : missAfter n v ≤ 3 := by
  cases v <;> simp [missAfter]; exact h

theorem keeps_bankRunEnd (s : State) (c : CanisterId) (n : Nat) (u : Bool) : Keeps s (s.bankRunEnd c n u) := by
  have h : Keeps s (s.setCanister c (((s.canister c).charge n u).reexamine).completeOffline) :=
    keeps_setCanister s c _ (((s.canister c).charge_eased n u).trans
      ((Canister.reexamine_eased _).trans (Canister.completeOffline_eased _)))
  unfold State.bankRunEnd
  dsimp only
  split
  · exact h.trans (keeps_post _ _ _ _ _)
  · exact h

theorem keeps_verdictNotice (s : State) (c : CanisterId) (v : DoseVerdict) : Keeps s (s.verdictNotice c v) := by
  have h1 : Canister.Eased (s.canister c) { s.canister c with missCount := missAfter (s.canister c).missCount v } :=
    ⟨rfl, rfl, rfl, rfl, le_rfl, le_rfl, missAfter_le _ _⟩
  unfold State.verdictNotice
  dsimp only
  split
  · exact (keeps_setCanister s c _ (h1.trans (Canister.toCheck_eased _))).trans (keeps_post _ _ _ _ _)
  · exact keeps_setCanister s c _ h1

theorem keeps_releaseDose (s : State) (d : Dose) : Keeps s (s.releaseDose d) :=
  keeps_setCanister s d.canister _
    (Canister.Eased.trans (l := { s.canister d.canister with reserved := (s.canister d.canister).reserved - d.outstanding })
      ⟨rfl, rfl, rfl, rfl, le_rfl, Nat.sub_le _ _, id⟩ (Canister.retest_eased _))

/-! ## Jobs -/

/-- A notice touches unfinished jobs alone, and no tag (R5). -/
theorem keeps_updateLive (s : State) (t : Tag) (f : Job → Job) (h : ∀ j, (f j).tag = j.tag) : Keeps s (s.updateLive t f) :=
  { Keeps.refl s with
    finished := fun j h hf => by
      simp only [State.updateLive, List.mem_map]
      exact ⟨j, h, by simp [Job.live, hf]⟩
    tags := by
      simp only [State.updateLive, List.map_map]
      refine List.map_congr_left (fun j _ => ?_)
      simp only [Function.comp]
      split <;> simp [h] }

theorem keeps_moveJob (s : State) (t : Tag) (p : JobState → Bool) (f : Job → Job) (h : ∀ j, (f j).tag = j.tag) :
    Keeps s (s.moveJob t p f) :=
  keeps_updateLive s t _ (fun j => by split <;> simp [h])

theorem keeps_foldl {α : Type} (f : State → α → State) (h : ∀ s a, Keeps s (f s a)) (s : State) (l : List α) :
    Keeps s (l.foldl f s) := by
  induction l generalizing s with
  | nil => exact Keeps.refl s
  | cons a l ih => exact (h s a).trans (ih (f s a))

theorem keeps_postFinish (s : State) (j : Job) (fin : JobState) : Keeps s (s.postFinish j fin) := by
  unfold State.postFinish
  dsimp only
  split <;> first | exact keeps_postAs _ _ _ _ _ _ | exact Keeps.refl s

theorem keeps_setFinishCounter (s : State) (n : Nat) : Keeps s (s.setFinishCounter n) := { Keeps.refl s with }

/-- Finishing a job keeps all but the job, the finish counter, the releases of a cancel and its report (R11). -/
theorem keeps_finishJob (s : State) (t : Tag) (fin : JobState) : Keeps s (s.finishJob t fin) := by
  unfold State.finishJob
  split
  · exact Keeps.refl s
  · rename_i j _
    split
    · dsimp only
      refine Keeps.trans ?_ (keeps_postFinish _ j fin)
      have h1 := keeps_updateLive s t (fun k =>
        { k with state := fin, finish := some { number := s.orders.finishCounter + 1, time := s.line.clock } }) (by intro; rfl)
      have h2 := h1.trans (keeps_setFinishCounter _ (s.orders.finishCounter + 1))
      split
      · exact h2.trans (keeps_foldl _ keeps_releaseDose _ _)
      · exact h2
    · exact Keeps.refl s

theorem keeps_jobUndrawn (s : State) (t : Tag) : Keeps s (s.jobUndrawn t) := by
  unfold State.jobUndrawn
  dsimp only
  split
  · split
    · exact (keeps_moveJob _ _ _ _ (by intro; rfl)).trans (keeps_finishJob _ _ _)
    · exact keeps_moveJob _ _ _ _ (by intro; rfl)
  · exact keeps_moveJob _ _ _ _ (by intro; rfl)

/-! ## Magazines -/

theorem keeps_tinsTo (s : State) (z : Size) (n : Nat) (h : n ≤ s.magazines.tins[z]) : Keeps s (s.tinsTo z n) := by
  have h1 : Keeps s { s with magazines := { s.magazines with tins := s.magazines.tins.set z.val n z.isLt } } :=
    { Keeps.refl s with
      tins := fun y => by
        by_cases hy : z.val = y.val
        · have : z = y := Fin.ext hy
          subst this
          simpa using h
        · simp [hy] }
  unfold State.tinsTo
  dsimp only
  split
  · exact h1.trans (keeps_post _ _ _ _ _)
  · exact h1

theorem keeps_lidsTo (s : State) (z : Size) (n : Nat) (h : n ≤ s.magazines.lids[z]) : Keeps s (s.lidsTo z n) := by
  have h1 : Keeps s { s with magazines := { s.magazines with lids := s.magazines.lids.set z.val n z.isLt } } :=
    { Keeps.refl s with
      lids := fun y => by
        by_cases hy : z.val = y.val
        · have : z = y := Fin.ext hy
          subst this
          simpa using h
        · simp [hy] }
  unfold State.lidsTo
  dsimp only
  split
  · exact h1.trans (keeps_post _ _ _ _ _)
  · exact h1

theorem keeps_drawTin (s : State) (z : Size) : Keeps s (s.drawTin z) := keeps_tinsTo s z _ (Nat.sub_le _ _)

theorem keeps_drawLid (s : State) (z : Size) : Keeps s (s.drawLid z) :=
  (keeps_lidsTo s z _ (Nat.sub_le _ _)).trans (keeps_press _ _)

/-! ## The drives -/

theorem keeps_startRun (s : State) (t : Tag) (code : Nat) (c : CanisterId) (n : Nat) (u : Bool) :
    Keeps s (s.startRun t code c n u) := keeps_setDrive s _ _

theorem keeps_stirTest (s : State) (m : Manifold) : Keeps s (s.stirTest m) := by
  unfold State.stirTest; dsimp only; split
  · exact keeps_setDrive s _ _
  · exact Keeps.refl s

theorem keeps_staleTest (s : State) (m : Manifold) : Keeps s (s.staleTest m) := by
  unfold State.staleTest; dsimp only; split
  · exact (keeps_setDrive s _ _).trans (keeps_post _ _ _ _ _)
  · exact Keeps.refl s

end Sys2Proof.Machine
end

