-- ==== Sys2Proof/Laws/KeepsBlocks.lean ====
section
/-! SUPPORT. The station's, the mixers', the press's and the line's shared operations keep what `Keeps` names; the last lemma says so of
the standing tests. -/

namespace Sys2Proof.Machine

/-! ## The station -/

theorem keeps_startReject (s : State) : Keeps s s.startReject := keeps_station s _

theorem keeps_startSettle (s : State) (p : SettleFor) : Keeps s (s.startSettle p) := keeps_station s _

theorem keeps_stationEmpty (s : State) : Keeps s s.stationEmpty := keeps_station s _

theorem keeps_askPlace (s : State) : Keeps s s.askPlace := by
  unfold State.askPlace
  split
  · exact Keeps.of_same rfl rfl rfl rfl rfl rfl rfl rfl rfl rfl rfl rfl
  · exact keeps_station s _

theorem keeps_becomeDosed (s : State) (t : Tag) : Keeps s (s.becomeDosed t) := (keeps_moveJob s _ _ _ (by intro; rfl)).trans (keeps_askPlace _)

theorem keeps_startPark (s : State) (t : Tag) (r : ParkReason) : Keeps s (s.startPark t r) := by
  unfold State.startPark
  split
  · exact Keeps.refl s
  · exact (keeps_setShelf s _ _).trans (keeps_station _ _)

theorem keeps_block (s : State) (t : Tag) : Keeps s (s.block t) := by
  unfold State.block
  split
  · exact Keeps.refl s
  · exact (keeps_station s _).trans (keeps_post _ _ _ _ _)

theorem keeps_freeShelfAt (s : State) (i : ShelfId) : Keeps s (s.freeShelfAt i) := by
  unfold State.freeShelfAt
  extract_lets s1
  have h : Keeps s s1 := keeps_setShelf s _ _
  split
  · exact h.trans (keeps_rack _ _)
  · exact h

theorem keeps_requestPick (s : State) (j : Job) (m : Manifold) : Keeps s (s.requestPick j m).1 := by
  unfold State.requestPick
  split
  · exact Keeps.refl s
  · split
    · exact keeps_startRun _ _ _ _ _ _
    · exact Keeps.refl s

theorem keeps_formRound (s : State) (j : Job) : Keeps s (s.formRound j) := by
  unfold State.formRound
  extract_lets ra rb
  split
  · exact keeps_station s _
  · exact ((keeps_requestPick s j .a).trans (keeps_requestPick _ j .b)).trans (keeps_station _ _)

theorem keeps_boundary (s : State) : Keeps s s.boundary := by
  unfold State.boundary
  split
  · exact Keeps.refl s
  · split
    · exact Keeps.refl s
    · split
      · exact keeps_startReject s
      · split
        · exact keeps_becomeDosed s _
        · split
          · exact keeps_startPark s _ _
          · split
            · split
              · exact keeps_startPark s _ _
              · exact keeps_block s _
            · exact keeps_formRound s _

/-- Writing the verdict of the doses named leaves the job's tag (R97). -/
theorem tag_foldl_mapDose (l : List (Nat × CanisterId)) (f : Dose → Dose) (j : Job) :
    (l.foldl (fun (k : Job) x => k.mapDose x.1 f) j).tag = j.tag := by
  induction l generalizing j with
  | nil => rfl
  | cons a l ih => exact ih (j.mapDose a.1 f)

theorem keeps_recordVerdict (s : State) (v : DoseVerdict) (l : List (Nat × CanisterId)) : Keeps s (s.recordVerdict v l) := by
  unfold State.recordVerdict
  refine Keeps.trans (Keeps.trans ?_ (keeps_foldl (fun k x => k.verdictNotice x.2 v) (fun k x => keeps_verdictNotice k x.2 v) _ l))
    (keeps_station _ _)
  split
  · exact Keeps.refl s
  · exact keeps_updateLive s _ _ (fun j => tag_foldl_mapDose l _ j)

theorem keeps_setTopUp (s : State) (code n : Nat) : Keeps s (s.setTopUp code n) := by
  unfold State.setTopUp
  split
  · exact Keeps.refl s
  · exact keeps_updateLive s _ _ (by intro; rfl)

theorem keeps_abandonTopUp (s : State) (f : FirstRound) : Keeps s (s.abandonTopUp f) :=
  ((keeps_setTopUp s _ _).trans (keeps_recordVerdict _ _ _)).trans (keeps_station _ _)

theorem keeps_requestTopUp (s : State) (f : FirstRound) : Keeps s (s.requestTopUp f) := by
  unfold State.requestTopUp
  extract_lets n
  have h : Keeps s (s.abandonTopUp f).boundary := (keeps_abandonTopUp s f).trans (keeps_boundary _)
  split
  · split
    · exact (keeps_startRun s _ _ _ _ _).trans (keeps_station _ _)
    · exact keeps_station s _
    · exact h
    · exact h
    · exact h
  · exact h

theorem keeps_judge (s : State) : Keeps s s.judge := by
  unfold State.judge
  split
  · exact Keeps.refl s
  · rename_i r _
    extract_lets after measured _ s1
    have h1 : Keeps s s1 := keeps_station s _
    have h2 : ∀ v l, Keeps s ((s1.recordVerdict v l).boundary) :=
      fun v l => (h1.trans (keeps_recordVerdict _ _ _)).trans (keeps_boundary _)
    split
    · exact h2 _ _
    · split
      · exact h2 _ _
      · rename_i run n _
        extract_lets _ s2 _
        have h3 : Keeps s1 s2 := keeps_setTopUp _ _ _
        refine Keeps.trans ?_ (keeps_requestTopUp _ _)
        exact (h1.trans h3).trans (keeps_station s2 _)

theorem keeps_stationRunEnd (s : State) (run : DoseRun) (e : EndCause) : Keeps s (s.stationRunEnd run e) := by
  unfold State.stationRunEnd
  extract_lets _ s1 s2 s3
  have a1 : Keeps s s1 := keeps_station s _
  have a2 : Keeps s1 s2 := keeps_updateLive _ _ _ (by intro; rfl)
  have a3 : Keeps s2 s3 := keeps_bankRunEnd _ _ _ _
  have h : Keeps s s3 := (a1.trans a2).trans a3
  split
  · exact h.trans (keeps_startSettle _ _)
  · exact h

theorem keeps_endRun (s : State) (m : Manifold) (x : DriveState) (e : EndCause) : Keeps s (s.endRun m x e) := by
  unfold State.endRun
  split
  · exact Keeps.refl s
  · exact (keeps_setDrive s _ _).trans (keeps_stationRunEnd _ _ _)

theorem keeps_leaveEmpty (s : State) : Keeps s s.leaveEmpty := keeps_weigh s _ rfl rfl

theorem keeps_startDraw (s : State) (j : Job) : Keeps s (s.startDraw j) := by
  unfold State.startDraw
  extract_lets s1 _ s2
  have a1 : Keeps s s1 := keeps_leaveEmpty s
  have a2 : Keeps s1 s2 := keeps_station _ _
  have a3 : Keeps s2 (s2.jobDrawn j.tag) := keeps_moveJob _ _ _ _ (by intro; rfl)
  exact ((a1.trans a2).trans a3).trans (keeps_drawTin _ _)

theorem keeps_startUnpark (s : State) (j : Job) : Keeps s (s.startUnpark j) := by
  unfold State.startUnpark
  split
  · exact Keeps.refl s
  · extract_lets s1 _ s2
    have a1 : Keeps s s1 := (keeps_leaveEmpty s).trans (keeps_setShelf _ _ _)
    have a2 : Keeps s1 s2 := keeps_station _ _
    exact (a1.trans a2).trans (keeps_updateLive _ _ _ (by intro; split <;> rfl))

theorem keeps_select (s : State) : Keeps s s.select := by
  unfold State.select
  split
  · split
    · exact Keeps.refl s
    · exact keeps_startDraw s _
    · exact keeps_startUnpark s _
  · exact Keeps.refl s

theorem keeps_stationTest (s : State) : Keeps s s.stationTest := by
  unfold State.stationTest
  split
  · exact Keeps.refl s
  · split
    · exact keeps_select s
    · split
      · exact keeps_boundary s
      · unfold State.topUpWait
        extract_lets d
        split
        · exact (keeps_abandonTopUp s _).trans (keeps_boundary _)
        · split
          · exact keeps_requestTopUp s _
          · exact Keeps.refl s
    · exact keeps_boundary s
    · exact keeps_askPlace s
    · exact Keeps.refl s

/-! ## The mixers and the press -/

theorem keeps_startLoad (s : State) (k : MixerId) (j : Job) : Keeps s (s.startLoad k j) := by
  unfold State.startLoad
  extract_lets _ s1 _ s2
  have a1 : Keeps s s1 := keeps_mixers s _
  have a2 : Keeps s1 s2 := keeps_setMixer _ _ _
  exact (a1.trans a2).trans (keeps_moveJob _ _ _ _ (by intro; rfl))

theorem keeps_chooseMixer (s : State) : Keeps s s.chooseMixer := by
  unfold State.chooseMixer
  split
  · split
    · exact Keeps.refl s
    · split
      · exact Keeps.refl s
      · split
        · exact Keeps.refl s
        · exact keeps_startLoad s _ _
  · exact Keeps.refl s

theorem keeps_unloadToLid (s : State) (k : MixerId) : Keeps s (s.unloadToLid k) := by
  unfold State.unloadToLid
  extract_lets _ s1
  have a1 : Keeps s s1 := keeps_setMixer s k _
  refine a1.trans (Keeps.of_same rfl rfl rfl rfl rfl rfl rfl rfl rfl rfl rfl rfl)

theorem keeps_serveHolding (s : State) : Keeps s s.serveHolding := by
  unfold State.serveHolding
  split
  · exact Keeps.refl s
  · split
    · exact keeps_unloadToLid s _
    · exact Keeps.refl s

theorem keeps_endMixRun (s : State) (k : MixerId) (j : Job) : Keeps s (s.endMixRun k j) := by
  unfold State.endMixRun
  split
  · exact keeps_setMixer s _ _
  · split
    · exact keeps_unloadToLid s _
    · exact ((keeps_setMixer s _ _).trans (keeps_mixers _ _)).trans (keeps_moveJob _ _ _ _ (by intro; rfl))

theorem keeps_mixerTest (s : State) : Keeps s s.mixerTest :=
  (((keeps_serveHolding s).trans (keeps_serveHolding _)).trans (keeps_chooseMixer _)).trans (keeps_chooseMixer _)

theorem keeps_startFeed (s : State) (j : Job) : Keeps s (s.startFeed j) :=
  ((keeps_press s _).trans (keeps_moveJob _ _ _ _ (by intro; rfl))).trans (keeps_drawLid _ _)

theorem keeps_feedTest (s : State) : Keeps s s.feedTest := by
  unfold State.feedTest
  split
  · exact Keeps.refl s
  · split
    · exact Keeps.refl s
    · split
      · exact keeps_startFeed s _
      · exact Keeps.refl s

theorem keeps_startReseat (s : State) (z : Size) : Keeps s (s.startReseat z) := (keeps_setPress s _).trans (keeps_drawLid _ _)

theorem keeps_waitLidTest (s : State) : Keeps s s.waitLidTest := by
  unfold State.waitLidTest
  split
  · split
    · split
      · exact (keeps_setPress s _).trans (keeps_drawLid _ _)
      · exact keeps_startReseat s _
    · exact Keeps.refl s
  · exact Keeps.refl s

theorem keeps_lidMissing (s : State) (z : Size) (d : LidDue) : Keeps s (s.lidMissing z d) :=
  (keeps_press s _).trans (keeps_lidsTo _ _ _ (Nat.zero_le _))

theorem keeps_pressTest (s : State) : Keeps s s.pressTest := (keeps_feedTest s).trans (keeps_waitLidTest _)

/-! ## The line -/

theorem keeps_noticePresence (s : State) : Keeps s s.noticePresence := keeps_line s _ rfl rfl rfl rfl

theorem keeps_tareInvalid (s : State) : Keeps s s.tareInvalid :=
  Keeps.of_same rfl rfl rfl rfl rfl rfl rfl rfl rfl rfl rfl rfl

theorem keeps_tareTest (s : State) : Keeps s s.tareTest := by
  unfold State.tareTest
  split
  · exact keeps_tareInvalid s
  · exact Keeps.refl s

theorem keeps_powerTest (s : State) : Keeps s s.powerTest := by
  unfold State.powerTest
  split
  · exact Keeps.refl s
  · exact keeps_weigh s _ rfl rfl

theorem keeps_enterMode (s : State) (m : LineMode) : Keeps s (s.enterMode m) := by
  unfold State.enterMode
  extract_lets _ s1
  have a1 : Keeps s s1 := keeps_line s _ rfl rfl rfl rfl
  exact ((a1.trans (keeps_post _ _ _ _ _)).trans (keeps_tareTest _)).trans (keeps_powerTest _)

theorem keeps_timerClear (s : State) : Keeps s s.timerClear := keeps_line s _ rfl rfl rfl rfl

theorem keeps_startWake (s : State) : Keeps s s.startWake :=
  ((keeps_timerClear s).trans (keeps_enterMode _ _)).trans (keeps_line _ _ rfl rfl rfl rfl)

theorem keeps_startSleep (s : State) : Keeps s s.startSleep :=
  ((keeps_timerClear s).trans (keeps_enterMode _ _)).trans (keeps_line _ _ rfl rfl rfl rfl)

theorem keeps_wakeTest (s : State) : Keeps s s.wakeTest := by
  unfold State.wakeTest
  split
  · exact keeps_startWake s
  · exact Keeps.refl s

theorem keeps_expiryTest (s : State) : Keeps s s.expiryTest := by
  unfold State.expiryTest
  split
  · exact (keeps_timerClear s).trans (keeps_enterMode _ _)
  · exact Keeps.refl s

theorem keeps_stirTests (s : State) : Keeps s s.stirTests := (keeps_stirTest s _).trans (keeps_stirTest _ _)

theorem keeps_clockTests (s : State) : Keeps s s.clockTests :=
  (((keeps_staleTest s _).trans (keeps_staleTest _ _)).trans (keeps_expiryTest _)).trans (keeps_stirTests _)

theorem keeps_takeUp (s : State) : Keeps s s.takeUp := by
  unfold State.takeUp
  have h1 : Keeps s s.stationTakeUp := by
    unfold State.stationTakeUp
    extract_lets _ s1
    have h : Keeps s s1 := keeps_station s _
    split
    · exact h.trans (keeps_startSettle _ _)
    · exact h
  have h2 : Keeps s.stationTakeUp s.stationTakeUp.mixersTakeUp := keeps_mixers _ _
  refine (h1.trans h2).trans ?_
  unfold State.pressTakeUp
  extract_lets _ s1
  have h : Keeps s.stationTakeUp.mixersTakeUp s1 := keeps_press _ _
  split
  · split
    · exact h
    · split
      · exact h.trans (keeps_drawLid _ _)
      · exact h.trans (keeps_setPress _ _)
  · exact h

/-- The standing tests keep all that `Keeps` names. -/
theorem keeps_conclude (s : State) : Keeps s s.conclude := by
  unfold State.conclude
  extract_lets s1 s2
  have h1 : Keeps s s1 := (keeps_noticePresence s).trans (keeps_wakeTest _)
  have h2 : Keeps s s2 := (h1.trans (keeps_stirTest _ _)).trans (keeps_stirTest _ _)
  exact (((h2.trans (keeps_pressTest _)).trans (keeps_mixerTest _)).trans (keeps_stationTest _)).trans (keeps_noticePresence _)

end Sys2Proof.Machine
end

