-- ==== Sys2Proof/Laws/Requests.lean ====
section
/-! SUPPORT. Small laws of the requests: the widths of reply fields, what serving a request and making it wait come to, and how a
canister index and a size code are read. -/

namespace Sys2Proof.Machine

@[simp] theorem enc1_length (n : Nat) : (enc1 n).length = 1 := rfl
@[simp] theorem enc2_length (n : Nat) : (enc2 n).length = 2 := rfl
@[simp] theorem enc4_length (n : Nat) : (enc4 n).length = 4 := rfl
@[simp] theorem encFlag_length (b : Bool) : (encFlag b).length = 1 := rfl
@[simp] theorem encTag_length (t : Option Tag) : (encTag t).length = 2 := rfl
@[simp] theorem Dose.bytes_length (d : Dose) : d.bytes.length = 19 := rfl
@[simp] theorem Settings.bytes_length (t : Settings) : t.bytes.length = 12 := rfl
@[simp] theorem Mixer.bytes_length (x : Mixer) : x.bytes.length = 7 := rfl
@[simp] theorem Drive.bytes_length (d : Drive) : d.bytes.length = 7 := rfl
@[simp] theorem laneBytes_length (l : List Tag) : (laneBytes l).length = 6 := rfl
@[simp] theorem Record.bytes_length (r : Record) : r.bytes.length = 12 := rfl

/-- A request that may be served is taken by its owner at the state with its bytes gone from the buffer. -/
theorem State.serve_served {s : State} {k : RequestKind} {body : Body} (h : s.link.serves k.code body = true)
    (owner : State → Answer) : s.serve k body owner = (owner s.beginService).send k := by
  simp only [State.serve, h, if_true]

/-- A request that may not be served waits. -/
theorem State.serve_waits {s : State} {k : RequestKind} {body : Body} (h : s.link.serves k.code body = false)
    (owner : State → Answer) : s.serve k body owner = s.waitService k.code body := by
  simp [State.serve, h]

/-- Sending an answer is answering in its state. -/
theorem Answer.send_eq (a : Answer) (k : RequestKind) : a.send k = a.state.answered k a.result a.fields := rfl

theorem canisterOf_some {b : Byte} {c : CanisterId} (h : b.toNat = c.val) : canisterOf b = some c := by
  simp [canisterOf, h]

theorem canisterOf_none {b : Byte} (h : 16 ≤ b.toNat) : canisterOf b = none := by
  simp [canisterOf, Nat.not_lt.mpr h]

theorem sizeOf?_some {b : Byte} {z : Size} (h : b.toNat = z.val) : sizeOf? b = some z := by
  simp [sizeOf?, h]

theorem sizeOf?_none {b : Byte} (h : 5 ≤ b.toNat) : sizeOf? b = none := by
  simp [sizeOf?, Nat.not_lt.mpr h]

end Sys2Proof.Machine
end

