-- ==== Sys2Proof/Laws/Reserved.lean ====
section
/-! SUPPORT. What the shared operations do to the two sides of R47: the reserved steps of a canister, and the outstanding steps of the
doses assigned to it. -/

namespace Sys2Proof.Machine

/-- The test of R51 leaves reserved steps alone. -/
@[simp] theorem Canister.retest_reserved (k : Canister) : k.retest.reserved = k.reserved := by
  unfold Canister.retest
  split
  · split
    · rfl
    · split <;> rfl
  · rfl

/-- Reserving a dose list changes reserved steps alone, by the steps of the doses on each canister (R33). -/
theorem foldl_reserveDose (l : List Dose) (s : State) :
    (l.foldl State.reserveDose s).orders = s.orders ∧ (l.foldl State.reserveDose s).drives = s.drives ∧
    (l.foldl State.reserveDose s).station = s.station ∧ (l.foldl State.reserveDose s).line = s.line ∧
    ∀ c, (l.foldl State.reserveDose s).canister c =
      { s.canister c with reserved := (s.canister c).reserved + setAside l c } := by
  induction l generalizing s with
  | nil => simp [setAside]
  | cons d l ih =>
    obtain ⟨h1, h2, h3, h4, h5⟩ := ih (s.reserveDose d)
    refine ⟨h1, h2, h3, h4, fun c => ?_⟩
    rw [List.foldl_cons, h5]
    by_cases hc : c = d.canister
    · subst hc; simp [State.reserveDose, setAside]; omega
    · have h : d.canister ≠ c := fun h => hc h.symm
      simp [State.reserveDose, setAside, hc, h]

/-- Releasing a dose list lowers each canister's reserved steps by the outstanding steps of the doses on it (R11, R47). -/
theorem foldl_releaseDose (l : List Dose) (s : State) :
    (l.foldl State.releaseDose s).orders = s.orders ∧ (l.foldl State.releaseDose s).drives = s.drives ∧
    (l.foldl State.releaseDose s).station = s.station ∧ ∀ c, ((l.foldl State.releaseDose s).canister c).reserved =
      (s.canister c).reserved - ((l.filter (fun d => d.canister = c)).map (·.outstanding)).sum := by
  induction l generalizing s with
  | nil => simp
  | cons d l ih =>
    obtain ⟨h1, h2, h3, h4⟩ := ih (s.releaseDose d)
    refine ⟨h1, h2, h3, fun c => ?_⟩
    rw [List.foldl_cons, h4]
    by_cases hc : d.canister = c
    · subst hc; simp [State.releaseDose]; omega
    · have h : ¬ c = d.canister := fun h => hc h.symm
      simp [State.releaseDose, hc, h]

/-- A finished job reserves nothing (R47). -/
theorem Job.outstandingOn_finished {j : Job} (h : j.finished = true) (c : CanisterId) : j.outstandingOn c = 0 := by
  unfold Job.outstandingOn
  have : j.state.reserves = false := by unfold Job.finished at h; split at h <;> simp_all [JobState.reserves]
  simp [this]

/-- What a run end does to the sum of R47: the dose of its colourant code loses the steps pumped, down to 0, and no other dose does (R94). -/
theorem sum_outstanding_delivered (l : List Dose) (hn : (l.map (·.code)).Nodup) (d : Dose) (hd : d ∈ l) (p : Nat) (c : CanisterId) :
    (((l.map (fun x => if x.code = d.code then { x with delivered := x.delivered + p } else x)).filter
      (fun x => x.canister = c)).map (·.outstanding)).sum + (if d.canister = c then min p d.outstanding else 0)
    = ((l.filter (fun x => x.canister = c)).map (·.outstanding)).sum := by
  induction l with
  | nil => cases hd
  | cons a l ih =>
    rw [List.map_cons, List.nodup_cons] at hn
    rcases List.mem_cons.1 hd with rfl | hd'
    · have h : l.map (fun x => if x.code = d.code then { x with delivered := x.delivered + p } else x) = l := by
        conv_rhs => rw [← List.map_id l]
        refine List.map_congr_left (fun x hx => ?_)
        have : x.code ≠ d.code := fun h => hn.1 (by rw [← h]; exact List.mem_map_of_mem hx)
        simp [this]
      rw [List.map_cons, h]
      by_cases hc : d.canister = c
      · simp [hc, Dose.outstanding]; omega
      · simp [hc]
    · have hne : a.code ≠ d.code := fun h => hn.1 (by rw [h]; exact List.mem_map_of_mem hd')
      have := ih hn.2 hd'
      by_cases hc : a.canister = c
      · simp only [List.map_cons, hne, if_false, List.filter_cons, hc, decide_true, if_true, List.sum_cons]; omega
      · simp only [List.map_cons, hne, if_false, List.filter_cons, hc, decide_false]; exact this

/-- A formula line taken into a merged list keeps its codes different (R26). -/
theorem mergeLine_nodup (ms : List MergedLine) (line code amount : Nat) (h : (ms.map (·.code)).Nodup) :
    ((mergeLine ms line code amount).map (·.code)).Nodup := by
  unfold mergeLine
  split
  · rw [List.map_map]
    have h2 : ((fun x : MergedLine => x.code) ∘
        fun m : MergedLine => if m.code = code then { m with amount := m.amount + amount } else m) = (fun x => x.code) := by
      funext m; simp only [Function.comp]; split <;> rfl
    rw [h2]; exact h
  · rename_i hn
    rw [List.map_append, List.nodup_append]
    refine ⟨h, by simp, fun x hx y hy hxy => ?_⟩
    obtain ⟨m, hm, rfl⟩ := List.mem_map.1 hx
    simp only [List.map_cons, List.map_nil, List.mem_singleton] at hy
    exact hn (List.any_eq_true.2 ⟨m, hm, by simp [hxy, hy]⟩)

/-- Merging gives a list of different codes (R26). -/
theorem mergeLines_nodup (l : List (Nat × Nat)) (ms : List MergedLine) (line : Nat) (h : (ms.map (·.code)).Nodup) :
    ((mergeLines ms line l).map (·.code)).Nodup := by
  induction l generalizing ms line with
  | nil => exact h
  | cons x l ih => exact ih _ _ (mergeLine_nodup _ _ _ _ h)

/-- The choice of canisters keeps the codes in merged order, and its doses have nothing delivered (R2, R31). -/
theorem State.assign_doses (s : State) (dropped : Nat) (l : List (MergedLine × Nat)) (earlier doses : List Dose) (k : Nat)
    (h : s.assign dropped earlier l = .admitted doses k) :
    doses.map (·.code) = earlier.map (·.code) ++ l.map (·.1.code) ∧
      ((∀ d ∈ earlier, d.delivered = 0) → ∀ d ∈ doses, d.delivered = 0) := by
  induction l generalizing earlier with
  | nil => simp only [State.assign] at h; cases h; simp
  | cons x l ih =>
    obtain ⟨m, steps⟩ := x
    simp only [State.assign] at h
    split at h
    · obtain ⟨a, b⟩ := ih _ h
      refine ⟨by rw [a]; simp, fun he => b (fun d hd => ?_)⟩
      rcases List.mem_append.1 hd with hd | hd
      · exact he d hd
      · rw [List.mem_singleton.1 hd]
    · split at h <;> cases h

/-- The doses of an admitted ORDER have different codes and nothing delivered (R2, R26). -/
theorem State.calculate_doses (s : State) (o : OrderBody) (size : Size) (base : Base) (doses : List Dose) (k : Nat)
    (h : s.calculate o size base = .admitted doses k) : (doses.map (·.code)).Nodup ∧ ∀ d ∈ doses, d.delivered = 0 := by
  unfold State.calculate at h
  dsimp only at h
  split at h
  · obtain ⟨h1, h2⟩ := s.assign_doses _ _ [] doses k h
    refine ⟨?_, h2 (by simp)⟩
    rw [h1, List.map_nil, List.nil_append]
    have sub : ∀ (l : List MergedLine) (f : MergedLine → Nat),
        (((l.map (fun m => (m, f m))).filter (fun x => x.2 ≠ 0)).map (·.1.code)).Sublist (l.map (·.code)) := fun l f => by
      have e : l.map (·.code) = (l.map (fun m => (m, f m))).map (·.1.code) := by simp [Function.comp_def]
      rw [e]; exact List.filter_sublist.map _
    exact (sub _ _).nodup (mergeLines_nodup _ [] 1 (by simp))
  · cases h

end Sys2Proof.Machine
end

