-- ==== Sys2Proof/Tests/Slice0.lean ====
section
/-! SUPPORT. The model's own tests: ill-formed commands refused, a few figures and steps that the manual works out, and, for each
statement with hypotheses, a witness that meets them, clause by clause at boundary values. -/

namespace Sys2Proof.Tests

open Sys2Proof Sys2Proof.Machine

/-! ## Well-formedness: an ill-formed term for each check -/

theorem test_body_too_long_refused : (Instr.ident (List.replicate 250 0)).wellFormed = false := by decide +kernel
theorem test_listed_kind_refused : (Instr.unknownKind 0x10 []).wellFormed = false := by decide
theorem test_offline_with_online_selector_refused : (Instr.canisterStateOffline [0, 2]).wellFormed = false := by decide
theorem test_online_with_offline_selector_refused : (Instr.canisterStateOnline [0, 1]).wellFormed = false := by decide
theorem test_clear_check_with_offline_selector_refused : (Instr.canisterStateClearCheck [0, 1]).wellFormed = false := by decide
theorem test_run_with_quiet_selector_refused : (Instr.lineModeRun [2]).wellFormed = false := by decide
theorem test_quiet_with_run_selector_refused : (Instr.lineModeQuiet [1]).wellFormed = false := by decide
theorem test_sleep_with_run_selector_refused : (Instr.lineModeSleep [1]).wellFormed = false := by decide
theorem test_manifold_with_mixer_selector_refused : (Instr.clearFaultManifold [3]).wellFormed = false := by decide
theorem test_mixer_with_press_selector_refused : (Instr.clearFaultMixer [5]).wellFormed = false := by decide
theorem test_press_with_manifold_selector_refused : (Instr.clearFaultPress [1]).wellFormed = false := by decide
theorem test_longest_body_accepted : (Instr.order (List.replicate 249 0)).wellFormed = true := by decide +kernel

/-! ## Small states -/

/-- A job with one dose of 600 steps on canister 0. -/
def job (t : Tag) (x : JobState) : Job :=
  { tag := t, cls := .normal, size := 1, base := 0, strength := 100, notify := false, lidSkip := false, mixOverride := none,
    doses := [{ code := 7, merged := 300, canister := 0, steps := 600, delivered := 0, topUp := 0, verdict := .none }],
    dropped := 0, state := x, cancelPending := false, verdict := .inTol, admission := 1, admitted := 0, finish := none,
    mixerUsed := none, mixAttempts := 0, lidAttempts := 0 }

/-- A plain-base job. -/
def plain (t : Tag) (x : JobState) : Job := { job t x with doses := [] }

/-- A canister in service with the job's colourant. -/
def stocked : Canister :=
  { code := 7, density := 1500, usable := 5000, reserved := 600, lowMark := 1000, state := .ready, tripped := false,
    missCount := 0, offlinePending := false }

/-- The reset state in a line mode. -/
def inMode (m : LineMode) : State := { State.reset with line := { State.reset.line with mode := m } }

/-- A state with some job records. -/
def withJobs (s : State) (l : List Job) : State := { s with orders := { s.orders with jobs := l } }

/-- A state with canister 0 so. -/
def withCanister (s : State) (k : Canister) : State := s.setCanister 0 k

/-- The station in a state with a job, and the record that goes with it. -/
def atStation (s : State) (x : StationState) (j : Job) (transfer : Option Transfer) : State :=
  { withJobs s [j] with station := { s.station with state := x, job := some j.tag, transfer := transfer } }

/-- Mixer 0 in a state with a job. -/
def inMixer (s : State) (x : MixerState) (j : Job) : State :=
  (withJobs s [j]).setMixer .m0 { s.mixers.m0 with state := x, tag := some j.tag, mixTime := some 60 }

/-- The press in a state with a job. -/
def inPress (s : State) (x : PressState) (j : Job) : State :=
  { withJobs s [j] with press := { s.press with state := x, tag := some j.tag } }

/-- The link with an assembler state. -/
def assembling (a : Assembler) : State := { State.reset with link := { State.reset.link with assembler := a } }

/-! ## Figures and steps that the manual works out -/

/-- R175: the check code of the nine characters 1 to 9. -/
theorem test_crc_figure : crc [0x31, 0x32, 0x33, 0x34, 0x35, 0x36, 0x37, 0x38, 0x39] = 0x29B1#16 := by decide +kernel

/-- R27: the table for 2,500 mL at strength 100. -/
theorem test_steps_table : [1, 2, 3, 999, 1000].map (fun a => stepsOf a 2500 100) = [1, 1, 2, 500, 500] := by decide

/-- R29: the limits in steps of base 0 at 40 and of base 3 at 140. -/
theorem test_limit_table :
    [0, 1, 2, 3, 4].map (fun z => limitSteps (Config.volume (Fin.ofNat 5 z)) 40) = [4000, 8000, 20000, 40000, 80000] ∧
    limitSteps (Config.volume 4) 140 = 280000 := by decide

/-- 05_the_dosing_station.md, worked example: 250 steps at 1,500 mg/mL expect 1,875 mg, and 3,195 mg tolerate 127 mg at 4 percent. -/
theorem test_expected_and_tolerance : expectedMass 250 1500 = 1875 ∧ toleranceOf 3195 4 = 127 ∧ toleranceOf 524 4 = 20 := by decide

/-- R34: one step at the lowest density expects 4 mg. -/
theorem test_expected_of_one_step : expectedMass 1 800 = 4 := by decide

/-- R38: a deficit of 105 mg at 1,500 mg/mL needs 14 steps, whose exact mass is 105 mg. -/
theorem test_top_up_steps : topUpSteps 105 1500 = 14 := by decide

/-- 07_mixing.md, worked example: 105 s in RUN are 158 s in QUIET. -/
theorem test_mix_time_quiet :
    (Job.mixTime { plain 3 .dosed with mixOverride := some 105 } .quiet) = 158 ∧
    (Job.mixTime { plain 3 .dosed with mixOverride := some 105 } .run) = 105 := by decide

/-- R180: from 63 the action count passes to 1. -/
theorem test_action_count_wraps : [0, 62, 63].map countUp = [1, 63, 1] := by decide

/-- R4, R20, R21: the tests of a CANCEL of a job in PARKED, MIXED and LIDDING, told apart by their reply codes. -/
theorem test_cancel_replies :
    [JobState.parked .preempt 1, .mixed, .lidding].map
      (fun x => ((State.withJob (withJobs (inMode .halted) [job 9 x]) [0, 9] (withJobs (inMode .halted) [job 9 x]).cancelJob).result)) =
    [.deferred, .tooLate, .tooLate] := by decide

/-- R84, R156: the last second of the idle timeout takes the line to STANDBY. -/
theorem test_idle_expiry :
    ((State.countSecond { inMode .run with line :=
        { (inMode .run).line with idle := { elapsed := 299, running := true } } }).clockTests).line.mode = .standby := by
  decide

/-- R171, R168: an urgent report raises ATTN, a MODE report does not. -/
theorem test_attention :
    (State.reset.post .pressFault 0 0 0).link.attn = true ∧ (State.reset.post .mode 3 0 0).link.attn = false := by decide

/-! ## Witnesses: the queue and the invariants -/

/-- A running line with a canister in service and a report held, a command waiting. -/
def busy : State :=
  { (withCanister (inMode .run) stocked).post .stockOut 0 256 0 with pending := [.lineClockTick] }

/-- A line halted by E-STOP out of RUN, both drives at rest, a command waiting. -/
def stopped : State :=
  { State.reset with
    pending := [.estopRelease]
    drives := { a := { state := .idle, stirClock := 9, stale := false, halted := true },
                b := { state := .faulted .dose, stirClock := 9, stale := false, halted := true } }
    line := { State.reset.line with mode := .halted, saved := some .run, estop := true } }

theorem witness_StepTakesFrontCommand : State.reset.pending = [] := rfl

theorem witness_ReportsKeptByEveryStep : busy.reportsOk ∧ ∃ t, step busy = .next t :=
  ⟨by unfold State.reportsOk; decide, _, rfl⟩

theorem witness_BankKeptInRange : busy.bankOk ∧ ∃ t, step busy = .next t :=
  ⟨by unfold State.bankOk Canister.inRange; decide, _, rfl⟩

theorem witness_StockKeptWithinCapacity : busy.stockOk ∧ ∃ t, step busy = .next t :=
  ⟨by unfold State.stockOk; decide, _, rfl⟩

theorem witness_BufferKeptWithinBounds : busy.bufferOk ∧ ∃ t, step busy = .next t :=
  ⟨by unfold State.bufferOk; decide, _, rfl⟩

theorem witness_LineRecordsAgree : stopped.lineOk ∧ ∃ t, step stopped = .next t :=
  ⟨⟨by decide, by decide, by decide, fun _ m => by cases m <;> exact ⟨rfl, trivial⟩⟩, _, rfl⟩

theorem witness_ClockMovesOnlyWithTheTick :
    Instr.gapTimerExpiry ≠ .lineClockTick ∧ ∀ e f, Instr.gapTimerExpiry ≠ .powerOnReset e f :=
  ⟨by decide, by intro e f h; cases h⟩

theorem witness_FinishedRecordsReadOnly :
    (∃ t, exec .wakeEnd (withJobs (inMode .waking) [job 9 .done]) = .next t) ∧
    job 9 .done ∈ (withJobs (inMode .waking) [job 9 .done]).orders.jobs ∧ (job 9 .done).finished = true :=
  ⟨⟨_, rfl⟩, by decide, by decide⟩

theorem witness_UsableRaisedOnlyByRefillOrSet : ∃ t, exec (.floatTrip 0) (withCanister State.reset stocked) = .next t := ⟨_, rfl⟩

/-- A drawing station in RUN, with a reading to take. -/
def drawing : State := atStation (inMode .run) .drawing (job 9 .dosing) (some .draw)

theorem witness_ZeroKeptUnderATin :
    (∃ t, exec (.weighReading 3 100) drawing = .next t) ∧ (∀ e f, Instr.weighReading 3 100 ≠ .powerOnReset e f) ∧
    drawing.station.state ≠ .empty ∧ drawing.station.state ≠ .tareWait ∧ drawing.station.state ≠ .stray :=
  ⟨⟨_, rfl⟩, (by intro e f h; cases h), by decide, by decide, by decide⟩

theorem witness_RefusedRequestChangesNothing :
    requestOf (.cancel [0, 9]) = some (.cancel, [0, 9]) ∧ State.reset.link.serves RequestKind.cancel.code [0, 9] = true ∧
    ∃ t r, exec (.cancel [0, 9]) State.reset = .next t ∧ t.link.reply = some r ∧ r.code ∉ acceptedCodes :=
  ⟨rfl, by decide, _, _, rfl, rfl, by decide⟩

/-- A request at the head of the order of service, with the action count at its top. -/
def queued (kind : Byte) (body : Body) : State :=
  { State.reset with link := { State.reset.link with service := [.request kind body], actionCount := 63 } }

theorem witness_ActionCountRises :
    (queued 0x43 [5]).link.actionCount ≤ 63 ∧ (∃ t, exec (.clearFaultPress [5]) (queued 0x43 [5]) = .next t) ∧
    requestOf (.fetch [8]) = some (.fetch, [8]) ∧ (queued 0x50 [8]).link.serves RequestKind.fetch.code [8] = true ∧
    (queued 0x50 [8]).link.serves RequestKind.fetch.code [1] = false ∧ requestOf .gapTimerExpiry = none ∧
    (∀ e f, Instr.gapTimerExpiry ≠ .powerOnReset e f) :=
  ⟨by decide, ⟨_, rfl⟩, rfl, by decide, by decide, rfl, by intro e f h; cases h⟩

theorem witness_StandingTestsFrame :
    job 9 .cancelled ∈ (withJobs (inMode .run) [job 9 .cancelled]).orders.jobs ∧ (job 9 .cancelled).finished = true := by decide

/-! ## Witnesses: the link -/

theorem witness_ReceiveByteTable :
    (assembling (.check 1 0x01 [] (some 0))).link.buffered < 512 ∧ State.reset.link.assembler = .hunt ∧ (0xA4 : Byte) ≠ 0xA5 ∧
    (assembling .length).link.assembler = .length ∧ 1 ≤ (1 : Byte).toNat ∧ (250 : Byte).toNat ≤ 250 ∧
    251 ≤ (251 : Byte).toNat ∧ (assembling (.kind 1)).link.assembler = .kind 1 ∧
    (assembling (.body 3 0x11 [0])).link.assembler = .body 3 0x11 [0] ∧ ([0] : Body).length + 1 = 3 - 1 ∧
    (assembling (.body 4 0x11 [0])).link.assembler = .body 4 0x11 [0] ∧ ([0] : Body).length + 1 ≠ 4 - 1 ∧
    (assembling (.check 1 0x01 [] none)).link.assembler = .check 1 0x01 [] none ∧
    State.reset.link.serves RequestKind.reset.code [] = true ∧ State.reset.occupied = false := by decide

/-- A link that holds 512 bytes: two long frames. -/
def fullBuffer : Link :=
  { State.reset.link with service := [.request 0x10 (List.replicate 249 0), .request 0x10 (List.replicate 248 0), .linkErr .badCheck],
                          assembler := .kind 9 }

/-- A link that owes 32 replies, with an open frame. -/
def owing : Link := { State.reset.link with service := List.replicate 32 (.linkErr .truncated), assembler := .check 1 0x01 [] (some 0) }

theorem witness_FrameEndsAndOverruns :
    512 ≤ ({ fullBuffer with assembler := .body 9 0x10 [0, 0] } : Link).buffered ∧ owing.buffered < 512 ∧ 32 ≤ owing.owed ∧
    crc (BitVec.ofNat 8 1 :: 0x01 :: []) = (0x3E : Byte) ++ (0x1F : Byte) ∧
    crc (BitVec.ofNat 8 1 :: 0x01 :: []) ≠ (0x00 : Byte) ++ (0x00 : Byte) ∧
    ({ owing with service := List.replicate 31 (.linkErr .badCheck) } : Link).owed < 32 ∧ owing.assembler ≠ .hunt ∧
    State.reset.link.assembler = .hunt := by decide +kernel

theorem witness_FrameReceivedBecomesRequest :
    State.reset.link.assembler = .hunt ∧ (List.replicate 249 (0 : Byte)).length ≤ 249 ∧
    State.reset.link.buffered + ((List.replicate 249 (0 : Byte)).length + 5) ≤ 512 := by decide +kernel

theorem witness_ServedInOrder_errors :
    ({ State.reset.link with service := [.linkErr .overrun] } : Link).service = .linkErr .overrun :: [] ∧
    (∀ e rest, State.reset.link.service ≠ .linkErr e :: rest) ∧ (0x7E : Byte) ∉ requestKindCodes ∧
    (0x80 : Byte) ∉ requestKindCodes ∧ State.reset.link.serves 0x80 [1] = true :=
  ⟨rfl, (by intro e rest h; cases h), by decide, by decide, by decide⟩

theorem witness_ServedInOrder_waiting :
    requestOf (.ident []) = some (.ident, []) ∧ (queued 0x50 [8]).link.serves RequestKind.ident.code [] = false ∧
    (queued 0x50 [8]).link.buffered + (([] : Body).length + 5) ≤ 512 ∧
    fullBuffer.serves RequestKind.ident.code [] = false ∧ 512 < fullBuffer.buffered + (([] : Body).length + 5) :=
  ⟨rfl, by decide, by decide, by decide +kernel, by decide +kernel⟩

theorem witness_WrongLengthRefused :
    requestOf (.canisterStateOnline [0]) = some (.canisterState, [0]) ∧ RequestKind.canisterState.bodyLength = some 2 ∧
    ([0] : Body).length ≠ 2 ∧ State.reset.link.serves RequestKind.canisterState.code [0] = true := by decide

theorem witness_QueriesAnswerAndChangeNothing :
    State.reset.link.serves RequestKind.ident.code [] = true ∧ State.reset.link.serves RequestKind.lineQuery.code [] = true ∧
    (withJobs State.reset [job 9 .done]).link.serves RequestKind.jobQuery.code [0, 9] = true ∧ beNat [0, 9] ≠ 0 ∧
    (withJobs State.reset [job 9 .done]).findJob (beNat [0, 9]) = some (job 9 .done) ∧
    State.reset.findJob (beNat [0xFF, 0xFF]) = none ∧ beNat [0xFF, 0xFF] ≠ 0 ∧
    State.reset.link.serves RequestKind.canisterQuery.code [15] = true ∧ (15 : Byte).toNat = (15 : CanisterId).val := by decide

theorem witness_FetchTakesOldestRecords : busy.link.serves RequestKind.fetch.code [9] = true := by decide

/-- A report entry of an urgency. -/
def entry (u : Bool) : Entry :=
  { record := { kind := .mode, detail := 0, subject := 0, value := 0, time := 0 }, urgent := u }

theorem witness_FullQueuePosting :
    (List.replicate 64 (entry true)).length = 64 ∧ (entry false).urgent = false ∧ (entry true).urgent = true ∧
    (List.replicate 63 (entry true) ++ entry false :: []).length = 64 ∧
    (∀ x ∈ List.replicate 63 (entry true), x.urgent = true) ∧ (∀ x ∈ List.replicate 64 (entry true), x.urgent = true) := by
  decide +kernel

/-! ## Witnesses: orders and the Dose Calculator -/

/-- An ORDER of tag 9, 500 mL, base 0, strength 100, with its flags, mix override and lines. -/
def orderBody (strength flags : Byte) (lines : List Byte) (n : Byte) : Body := [0, 9, 0, 0, strength, flags, 0, 0, n] ++ lines

/-- One line: 30 uL/L of colourant 7, which is 3 steps. -/
def goodOrder : Body := orderBody 100 0 [7, 0, 30] 1

/-- A job table with 32 unfinished jobs. -/
def fullTable : State := withJobs State.reset ((List.range 32).map (fun t => job (t + 100) .queued))

/-- The reset state with colourant 7 on canister 0, OFFLINE. -/
def carriedOnly : State := withCanister State.reset { stocked with state := .offline }

theorem witness_OrderChecksInSeries :
    State.reset.link.serves RequestKind.order.code [0] = true ∧ parseOrder [0] = none ∧
    (parseOrder goodOrder).isSome = true ∧ (inMode .sleep).line.mode = .sleep ∧ State.reset.line.mode ≠ .sleep ∧
    (parseOrder (orderBody 9 0 [] 0)).bind OrderBody.fieldError = some (4, 0) ∧
    (parseOrder goodOrder).bind OrderBody.fieldError = none ∧
    (∃ j ∈ (withJobs State.reset [job 9 .lidding]).orders.jobs, j.tag = 9 ∧ j.finished = false) ∧
    (∀ j ∈ (withJobs State.reset [job 9 .done]).orders.jobs, j.tag = 9 → j.finished = true) ∧
    32 ≤ (fullTable.orders.jobs.filter (fun j => !j.finished)).length ∧ (∀ j ∈ fullTable.orders.jobs, j.tag = 9 → j.finished = true) ∧
    (State.reset.orders.jobs.filter (fun j => !j.finished)).length < 32 ∧ State.reset.orders.admissionCounter < 4294967295 := by
  decide +kernel

/-- The clauses of OrderChecksInSeries about the calculation: a heavy line is over the limit of 4,000 steps; a light one is the first dose,
and no canister is a candidate for it, whether a canister carries its colourant or none does. -/
theorem witness_OrderChecksInSeries_calculation :
    (Config.volume 0 * State.reset.line.settings.loadLimits[(0 : Base)] = 20000) ∧ stepsOf 40010 500 100 * 5 = 20005 ∧
    mergeLines [] 1 [(7, 40010)] = [{ code := 7, amount := 40010, line := 1 }] ∧
    ((mergeLines [] 1 [(7, 30)]).map (fun m => (m, stepsOf m.amount (Config.volume 0) 100))).filter (fun x => x.2 ≠ 0) =
      [] ++ ({ code := 7, amount := 30, line := 1 }, 3) :: [] ∧
    (∀ c : CanisterId, ¬ ((carriedOnly.canister c).state = .ready ∨ (carriedOnly.canister c).state = .low)) ∧
    (∃ c : CanisterId, (carriedOnly.canister c).code = 7) ∧ (∀ c : CanisterId, (State.reset.canister c).code ≠ 7) := by
  decide +kernel

theorem witness_OrderAdmission :
    (parseOrder goodOrder).map (fun o => (withCanister State.reset stocked).calculate o (Fin.ofNat 5 o.size) (Fin.ofNat 4 o.base)) =
      some (.admitted [{ code := 7, merged := 30, canister := 0, steps := 3, delivered := 0, topUp := 0, verdict := .none }] 0) ∧
    (withCanister State.reset stocked).tableFull = false ∧ (parseOrder goodOrder).bind OrderBody.fieldError = none ∧
    (withCanister State.reset stocked).line.mode ≠ .sleep ∧
    (∀ j ∈ (withCanister State.reset stocked).orders.jobs, j.tag = 9 → j.finished = true) ∧
    (withCanister State.reset stocked).link.serves RequestKind.order.code goodOrder = true := by decide +kernel

theorem witness_FormulaMergedAndScaled :
    [(7, 60000), (8, 1), (7, 60000)].length ≤ 8 ∧
    (∀ x ∈ ([(7, 60000), (8, 1), (7, 60000)] : List (Nat × Nat)), 1 ≤ x.2 ∧ x.2 ≤ 60000) ∧
    (mergeLines [] 1 [(7, 60000), (8, 1), (7, 60000)]).map (fun m => (m.code, m.amount, m.line)) = [(7, 120000, 1), (8, 1, 2)] := by
  decide

theorem witness_ChosenCanisterIsBest :
    (withCanister State.reset stocked).chooseCanister [] 7 4400 = some 0 ∧
    (withCanister State.reset stocked).candidate [] 7 4400 0 = true ∧
    (withCanister State.reset stocked).chooseCanister [] 7 4401 = none := by decide +kernel

/-- The reset state with one job of tag 9. -/
def oneJob (x : JobState) : State := withJobs State.reset [job 9 x]

theorem witness_CancelByState :
    State.reset.link.serves RequestKind.cancel.code [0, 9] = true ∧ beNat [0, 9] ≠ 0 ∧ State.reset.findJob (beNat [0, 9]) = none ∧
    (oneJob .queued).findJob (beNat [0, 9]) = some (job 9 .queued) ∧
    (oneJob (.parked .preempt 1)).findJob (beNat [0, 9]) = some (job 9 (.parked .preempt 1)) ∧
    (job 9 (.parked .preempt 1)).cancelPending = false ∧
    (withJobs State.reset [{ job 9 .dosing with cancelPending := true }]).findJob (beNat [0, 9]) =
      some { job 9 .dosing with cancelPending := true } ∧
    (oneJob .lidding).findJob (beNat [0, 9]) = some (job 9 .lidding) ∧
    (oneJob .cancelled).findJob (beNat [0, 9]) = some (job 9 .cancelled) ∧ (job 9 .cancelled).finished = true := by decide

theorem witness_ReleaseFreesFinishedOnly :
    State.reset.link.serves RequestKind.release.code [0, 9] = true ∧ beNat [0, 9] ≠ 0 ∧
    State.reset.findJob (beNat [0, 9]) = none ∧ (oneJob .done).findJob (beNat [0, 9]) = some (job 9 .done) ∧
    (job 9 .done).finished = true ∧ (oneJob .queued).findJob (beNat [0, 9]) = some (job 9 .queued) ∧
    (job 9 .queued).finished = false := by decide

theorem witness_FinishingAJob :
    (oneJob .queued).liveJob 9 = some (job 9 .queued) ∧ (job 9 .queued).state.mayFinish .cancelled = true ∧
    (oneJob .mixing).liveJob 9 = some (job 9 .mixing) ∧ (job 9 .mixing).state.mayFinish (.failed .mixFault) = true ∧
    (oneJob .lidding).liveJob 9 = some (job 9 .lidding) ∧ (job 9 .lidding).state.mayFinish .done = true ∧
    (withJobs State.reset [job 9 .done, job 9 .queued]).orders.jobs.any (fun k => k.live 9 = false) = true := by decide

/-! ## Witnesses: the Colourant Bank -/

theorem witness_CanisterSetDefines :
    State.reset.link.serves RequestKind.canisterSet.code [15, 250, 3, 32, 0, 0, 0, 0, 0, 0, 0, 0] = true ∧ 16 ≤ (16 : Byte).toNat ∧
    (15 : Byte).toNat = (15 : CanisterId).val ∧ 250 < (251 : Byte).toNat ∧ (250 : Byte).toNat ≤ 250 ∧
    ((withCanister State.reset stocked).canister 0).state ≠ .offline ∧
    0 < (carriedOnly.canister 0).reserved ∧ (State.reset.canister 15).state = .offline ∧ (State.reset.canister 15).reserved = 0 := by
  decide

/-- A run of canister 0 on drive A. -/
def running0 (topUp : Bool) : State :=
  (withCanister (inMode .run) stocked).setDrive .a
    { state := .dosing { tag := 9, code := 7, canister := 0, asked := 600, topUp := topUp, pumped := 598 }, stirClock := 5,
      stale := false, halted := false }

theorem witness_CanisterStateActions :
    (0 : Byte).toNat = (0 : CanisterId).val ∧ State.reset.link.serves RequestKind.canisterState.code [0, 4] = true ∧
    (State.reset.canister 0).state = .offline ∧ ((running0 false).canister 0).state ≠ .offline ∧
    ((withCanister (running0 false) { stocked with offlinePending := true }).canister 0).offlinePending = true ∧
    ((withCanister State.reset stocked).canister 0).offlinePending = false ∧
    (withCanister State.reset stocked).running 0 = false ∧ (running0 false).running 0 = true ∧
    ((running0 false).canister 0).state ≠ .check ∧ (State.reset.canister 0).code = 0 ∧
    (carriedOnly.canister 0).offlinePending = false ∧ (carriedOnly.canister 0).code ≠ 0 ∧
    ((withCanister carriedOnly { stocked with state := .offline, missCount := 3 }).canister 0).missCount = 3 ∧
    (carriedOnly.canister 0).missCount ≠ 3 ∧
    ((withCanister carriedOnly { stocked with state := .offline, tripped := true }).canister 0).tripped = true ∧
    (carriedOnly.canister 0).tripped = false ∧
    ((withCanister carriedOnly { stocked with state := .offline, usable := 599 }).canister 0).usable < 600 ∧
    (carriedOnly.canister 0).reserved ≤ (carriedOnly.canister 0).usable ∧
    ((withCanister State.reset { stocked with state := .check, usable := 600 }).canister 0).state = .check ∧
    ((withCanister State.reset { stocked with state := .check, tripped := true }).canister 0).tripped = true ∧
    (4 : Byte) ≠ 1 ∧ (4 : Byte) ≠ 2 ∧ (4 : Byte) ≠ 3 := by decide +kernel

/-- Canister 0 SHORT, with its usable steps. -/
def short0 (tripped : Bool) (usable : Nat) : State :=
  withCanister State.reset { stocked with state := .short .belowReserved, tripped := tripped, usable := usable }

theorem witness_RefillAddsSteps :
    (0 : Byte).toNat = (0 : CanisterId).val ∧ State.reset.link.serves RequestKind.refill.code [0, 0, 0, 0, 1] = true ∧
    beNat [0, 0, 0, 0] = 0 ∧ 600000 < beNat [0, 9, 0x27, 0xC1] ∧ 1 ≤ beNat [0, 0, 0, 1] ∧ beNat [0, 9, 0x27, 0xC0] ≤ 600000 ∧
    ((withCanister State.reset stocked).canister 0).state = .ready ∧ (State.reset.canister 0).state = .offline ∧
    ((short0 true 0).canister 0).state = .short .belowReserved ∧ ((short0 true 0).canister 0).tripped = true ∧
    ((short0 false 598).canister 0).usable + 1 < ((short0 false 598).canister 0).reserved ∧
    ((short0 false 599).canister 0).reserved ≤ ((short0 false 599).canister 0).usable + 1 ∧
    ((short0 false 599).canister 0).usable + 1 < ((short0 false 599).canister 0).lowMark ∧
    ((short0 false 999).canister 0).lowMark ≤ ((short0 false 999).canister 0).usable + 1 := by decide +kernel

theorem witness_FloatEvents :
    ((withCanister State.reset stocked).canister 0).state = .ready ∧ (withCanister State.reset stocked).running 0 = false ∧
    ((running0 false).canister 0).state = .ready ∧ (running0 false).running 0 = true ∧
    ((short0 true 599).canister 0).state = .short .belowReserved ∧ ((short0 true 599).canister 0).usable < 600 ∧
    600 ≤ ((short0 true 600).canister 0).usable ∧ (State.reset.canister 0).state = .offline ∧
    (∀ x, (State.reset.canister 0).state ≠ .short x) :=
  ⟨by decide, by decide, by decide, by decide, by decide, by decide, by decide, by decide,
   (by intro x h; have h2 : CanisterState.offline = .short x := h; cases h2)⟩

theorem witness_RunEndAndVerdictNotices :
    (stocked.offlinePending = false ∧ stocked.state = .ready ∧ stocked.usable - 4001 < stocked.lowMark ∧
      stocked.lowMark ≤ stocked.usable - 4000) ∧ ({ stocked with offlinePending := true } : Canister).offlinePending = true ∧
    ({ stocked with state := .check } : Canister).state = .check ∧ (1 : CanisterId) ≠ 0 ∧
    DoseVerdict.under ≠ .none ∧ DoseVerdict.under ≠ .inTol ∧ ({ stocked with missCount := 1 } : Canister).missCount < 2 ∧
    ({ stocked with missCount := 2, state := .offline } : Canister).missCount = 2 ∧
    ({ stocked with missCount := 2 } : Canister).state ≠ .offline ∧ ({ stocked with missCount := 3 } : Canister).missCount = 3 := by
  decide

/-! ## Witnesses: Manifold Drives -/

/-- Drive A so, in RUN. -/
def driveA (x : DriveState) (clock : Nat) : State :=
  (inMode .run).setDrive .a { state := x, stirClock := clock, stale := false, halted := false }

theorem witness_StirsStartAndComplete :
    ((driveA .idle 3600).drive .a).state = .idle ∧ 60 * 60 ≤ ((driveA .idle 3600).drive .a).stirClock ∧
    ((driveA .idle 3600).drive .a).halted = false ∧ (driveA .idle 3600).line.mode = .run ∧
    ¬ (60 * 60 ≤ ((driveA .idle 3599).drive .a).stirClock ∨ ((driveA .idle 3599).drive .a).stale = true) ∧
    ((driveA (.stirring 90 90) 3600).drive .a).state = .stirring 90 90 ∧ 90 ≤ 90 ∧
    ((driveA (.stirring 89 90) 3600).drive .a).state = .stirring 89 90 ∧ 89 < 90 ∧
    60 * 60 + 1800 ≤ ((driveA .idle 5400).drive .a).stirClock ∧ ((driveA .idle 5400).drive .a).stale = false ∧
    ((driveA .idle 5399).drive .a).stirClock < 60 * 60 + 1800 ∧ (driveA .idle 5399).line.settings.stirInterval = 60 := by decide

/-- A run of 600 steps with some pumped. -/
def someRun (pumped : Nat) : DoseRun := { tag := 9, code := 7, canister := 0, asked := 600, topUp := false, pumped := pumped }

theorem witness_PumpStepsAndStalls :
    ((driveA (.dosing (someRun 598)) 5).drive .a).state = .dosing (someRun 598) ∧ (someRun 598).pumped + 1 < (someRun 598).asked ∧
    ((driveA (.dosing (someRun 599)) 5).drive .a).state = .dosing (someRun 599) ∧ (someRun 599).asked ≤ (someRun 599).pumped + 1 ∧
    ((driveA (.stirring 0 90) 5).drive .a).state = .stirring 0 90 ∧ ((driveA .idle 5).drive .a).state = .idle ∧
    (∀ r, ((driveA .idle 5).drive .a).state ≠ .dosing r) :=
  ⟨by decide, by decide, by decide, by decide, by decide, by decide,
   (by intro r h; have h2 : DriveState.idle = .dosing r := h; cases h2)⟩

theorem witness_ClearFaultByTarget :
    State.reset.link.serves RequestKind.clearFault.code [1] = true ∧ ((driveA (.faulted .stir) 5).drive .a).state = .faulted .stir ∧
    (∀ f, ((driveA .idle 5).drive .a).state ≠ .faulted f) ∧ ((inMixer (inMode .run) .fault (job 9 .mixing)).mixer .m0).state = .fault ∧
    (State.reset.mixer .m1).state ≠ .fault ∧ (inPress (inMode .run) .fault (job 9 .lidding)).press.state = .fault ∧
    State.reset.press.state ≠ .fault ∧ 6 ≤ (6 : Byte).toNat :=
  ⟨by decide, by decide, (by intro r h; have h2 : DriveState.idle = .faulted r := h; cases h2), by decide, by decide, by decide,
   by decide, by decide⟩

/-! ## Witnesses: the Dosing Station -/

/-- The weigh cell 2.4 s into a still platform at 5,000 counts over the zero. -/
def still : WeighCell :=
  { zero := 0, tareValid := false, latest := 5000, window := [(0, 5000), (100, 4998)], tracked := 2400, strayMs := none }

/-- A line in RUN with that weigh cell. -/
def platform (w : WeighCell) : State := { inMode .run with weigh := w }

/-- That line with a stray load found. -/
def strayed : State := { platform still with station := { (platform still).station with state := .stray } }

theorem witness_ReadingsTareAndStray :
    State.reset.cellPowered = false ∧ (platform still).cellPowered = true ∧ (platform still).station.state = .tareWait ∧
    (still.track 5000 100).stable = true ∧ (5000 : Int) - still.zero ≤ 5000 ∧ still.zero - 5000 ≤ (5000 : Int) ∧
    drawing.cellPowered = true ∧ drawing.station.state ≠ .empty ∧ drawing.station.state ≠ .tareWait ∧ drawing.station.state ≠ .stray ∧
    (platform { still with strayMs := some 40000 }).weigh.strayMs = some 40000 ∧
    (platform { still with strayMs := some 39999 }).weigh.strayMs ≠ some 40000 ∧
    (still.track 5001 100).stable = false ∧ (5000 : Int) ≤ 5001 - still.zero ∧
    strayed.cellPowered = true ∧ strayed.station.state = .stray := by decide

/-- A RUSH job to draw, a NORMAL one parked and one to retrieve, their canister in service. -/
def candidates (l : List Job) : State :=
  { withJobs (withCanister (inMode .run) stocked) l with
    magazines := { tins := Vector.replicate 5 1, lids := Vector.replicate 5 0 }
    station := { (inMode .run).station with state := .empty }
    weigh := { still with tareValid := true }
    rack := { shelves := (Vector.replicate 4 Shelf.free).set 3 (.holding 12), parkCounter := 1 } }

theorem witness_SelectionFollowsRanks :
    (candidates [{ job 9 .queued with cls := .rush }, job 12 (.parked .preempt 1)]).selection =
      some (.draw { job 9 .queued with cls := .rush }) ∧
    (candidates [job 9 .queued, job 12 (.parked .preempt 1)]).selection = some (.unpark (job 12 (.parked .preempt 1))) ∧
    (candidates [{ job 9 .queued with cls := .rush }, { job 12 (.parked .preempt 1) with cancelPending := true }]).selection =
      some (.unpark { job 12 (.parked .preempt 1) with cancelPending := true }) ∧
    (candidates [job 9 .mixing]).selection = none := by decide +kernel

theorem witness_StationSelectStarts :
    (candidates [job 9 .queued]).maySelect = true ∧ (candidates [job 9 .queued]).selection = some (.draw (job 9 .queued)) ∧
    (candidates [job 12 (.parked .preempt 1)]).maySelect = true ∧
    (candidates [job 12 (.parked .preempt 1)]).selection = some (.unpark (job 12 (.parked .preempt 1))) ∧
    (candidates [job 12 (.parked .preempt 1)]).rack.shelfHolding 12 = some 3 ∧ State.reset.maySelect = false ∧
    (candidates []).selection = none := by decide +kernel

theorem witness_TransfersEnd :
    drawing.station.state = .drawing ∧ drawing.station.halted = false ∧
    (atStation (inMode .run) .unparking (job 9 .dosing) (some (.unpark 3))).station.transfer = some (.unpark 3) ∧
    (atStation (inMode .run) .unparking (job 9 .dosing) (some (.unpark 3))).stationCancelled = false ∧
    (atStation (inMode .run) .unparking { job 9 .dosing with cancelPending := true } (some (.unpark 3))).stationCancelled = true ∧
    (atStation (inMode .run) .parking (job 9 .dosing) (some (.park 0 .preempt))).station.transfer = some (.park 0 .preempt) ∧
    (atStation (inMode .run) .parking (job 9 .dosing) (some (.park 0 .preempt))).station.job = some 9 ∧
    (atStation (inMode .run) .parking { job 9 .dosing with cancelPending := true } (some (.park 0 .preempt))).stationCancelled = true ∧
    ({ (inMode .run).rack with parkCounter := 4294967294 } : Rack).parkCounter < 4294967295 ∧
    (atStation (inMode .run) .discharging (job 9 .dosed) (some .discharge)).station.job = some 9 ∧
    (atStation (inMode .run) .rejecting (job 9 .dosing) (some .reject)).station.state = .rejecting ∧
    State.reset.station.state ≠ .drawing := by decide

/-- A station in a settle with a reading. -/
def settling (p : SettleFor) (j : Job) (latest : Int) : State :=
  { atStation (inMode .run) (.weighing p) j none with weigh := { still with latest := latest } }

/-- A run of a round that has ended. -/
def endedRun (code : Nat) (c : CanisterId) (n d : Nat) : RoundRun :=
  { code := code, canister := c, asked := n, density := d, ended := some { pumped := n, cause := .complete } }

/-- A round of two doses, 250 steps at 1,500 and 264 at 1,000, awaiting judgement. -/
def judged : State :=
  let s := settling .round (job 9 .dosing) 10319
  { s with station := { s.station with
      readingBefore := some 10000,
      round := some { runs := [endedRun 7 0 250 1500, endedRun 8 8 264 1000], topUp := false, interrupted := false } } }

theorem witness_SettleEnds :
    (settling .draw (job 9 .dosing) 10000).stationJob = some (job 9 .dosing) ∧
    (settling .draw (job 9 .dosing) 10000).station.state = .weighing .draw ∧
    10000 ≤ (settling .draw (job 9 .dosing) 10000).weigh.latest - (settling .draw (job 9 .dosing) 10000).weigh.zero ∧
    ¬ 10000 ≤ (settling .draw (job 9 .dosing) 9999).weigh.latest - (settling .draw (job 9 .dosing) 9999).weigh.zero ∧
    (settling .draw (plain 9 .dosing) 10000).stationJob = some (plain 9 .dosing) ∧ (plain 9 .dosing).doses = [] ∧
    (job 9 .dosing).doses ≠ [] ∧ (job 9 .dosing).cancelPending = false ∧
    ({ job 9 .dosing with cancelPending := true } : Job).cancelPending = true ∧
    (settling .unpark (job 9 .dosing) 10000).station.state = .weighing .unpark ∧ judged.station.halted = false ∧
    judged.station.state = .weighing .round ∧ judged.station.readingBefore = some 10000 ∧
    judged.station.round =
      some { runs := [endedRun 7 0 250 1500, endedRun 8 8 264 1000], topUp := false, interrupted := false } := by decide

/-- A round of one dose of 600 steps at 1,500, with 5,000 free steps, 338 counts after it, awaiting judgement. -/
def underdosed : State :=
  let s := settling .round (job 9 .dosing) 10338
  { withCanister s { stocked with reserved := 0 } with station := { s.station with
      readingBefore := some 10000,
      round := some { runs := [endedRun 7 0 600 1500], topUp := false, interrupted := false } } }

/-- The round with its reading taken. -/
def underdosedWeighed : State := { underdosed with station := { underdosed.station with readingBefore := some 10338 } }

/-- The figures of a first round judged UNDER, a top-up due. -/
def dueFigures : FirstRound := { code := 7, canister := 0, expected := 4500, tolerance := 180, measured := 3380 }

/-- Its top-up round awaiting judgement. -/
def toppedUp : State := { underdosed with station := { underdosedWeighed.station with
  firstRound := some dueFigures
  round := some { runs := [endedRun 7 0 150 1500], topUp := true, interrupted := false } } }

theorem witness_SettleEnds_top_up :
    underdosed.station.state = .weighing .round ∧ underdosed.station.halted = false ∧
    ((underdosed.station.round.map Round.expected) = some 4500 ∧ (underdosed.weigh.latest - 10000) * 10 = 3380) ∧
    verdictOf 3380 4500 (max (4500 * underdosed.line.settings.tolerance / 100) 20) = .under ∧
    underdosedWeighed.topUpFor { runs := [endedRun 7 0 600 1500], topUp := false, interrupted := false } 1120 =
      some (endedRun 7 0 600 1500, 150) ∧
    toppedUp.station.state = .weighing .round ∧ toppedUp.station.firstRound = some dueFigures ∧
    (toppedUp.station.round.map (·.topUp)) = some true ∧ toppedUp.station.readingBefore = some 10338 := by decide +kernel

/-- 05_the_dosing_station.md, worked example: 1,875 mg and 1,320 mg expected; 3,190 mg measured are within 127 mg. -/
theorem test_round_judged :
    (endedRun 7 0 250 1500).expected + (endedRun 8 8 264 1000).expected = 3195 ∧
    verdictOf (measuredMass 10000 10319) 3195 127 = .inTol := by decide

theorem witness_SettleEnds_idle : ∀ p, State.reset.station.state ≠ .weighing p := by
  intro p h
  have h2 : StationState.tareWait = .weighing p := h
  cases h2

/-- Both drives at rest, stirred and ready. -/
def restedDrives : Drives :=
  { a := { state := .idle, stirClock := 0, stale := false, halted := false },
    b := { state := .idle, stirClock := 0, stale := false, halted := false } }

/-- A job at a round boundary, its canister so, with other jobs waiting. -/
def atBoundary (j : Job) (k : Canister) (others : List Job) : State :=
  let s := withCanister (atStation (inMode .run) (.weighing .round) j none) k
  { withJobs s (j :: others) with
    drives := restedDrives
    magazines := { tins := Vector.replicate 5 1, lids := Vector.replicate 5 0 } }

/-- A RUSH job that a draw could take. -/
def rushJob : Job := { job 12 .queued with cls := .rush }

theorem witness_BoundaryDecisionsInOrder :
    (atBoundary (job 9 .dosing) stocked []).station.job = some 9 ∧
    (atBoundary (job 9 .dosing) stocked []).liveJob 9 = some (job 9 .dosing) ∧ (plain 9 .dosing).doses = [] ∧
    ({ State.reset.mixers with lane := [1, 2] } : MixerPool).lane.length + 0 < 3 ∧
    3 ≤ ({ State.reset.mixers with lane := [1, 2], heldPlace := true } : MixerPool).lane.length + 1 ∧
    (job 9 .dosing).cls = .normal ∧ (atBoundary (job 9 .dosing) stocked [rushJob]).rushCandidate = true ∧
    (atBoundary (job 9 .dosing) stocked [rushJob]).rack.shelves[(0 : ShelfId)] = .free ∧
    (atBoundary (job 9 .dosing) stocked []).rushCandidate = false ∧
    ((atBoundary (job 9 .dosing) { stocked with state := .check } []).canister 0).state = .check ∧
    (∀ i : ShelfId, ({ shelves := Vector.replicate 4 (.holding 3), parkCounter := 4 } : Rack).shelves[i] ≠ .free) := by
  decide +kernel

theorem witness_BoundaryDecisionsInOrder_round :
    ((atBoundary (job 9 .dosing) stocked []).canister 0).state = .ready ∧
    ((atBoundary (job 9 .dosing) stocked []).canister 0).offlinePending = false ∧
    (atBoundary (job 9 .dosing) stocked []).drive .a = { state := .idle, stirClock := 0, stale := false, halted := false } ∧
    (job 9 .dosing).doses.length = 1 ∧ ((job 9 .dosing).doses.map (fun d => (d.steps, d.delivered, manifoldOf d.canister))) =
      [(600, 0, .a)] ∧ (State.reset.drive .a).state = .stirring 0 90 := by decide +kernel

/-- A station that waits with a top-up of 150 steps due. -/
def topUpWaiting (k : Canister) : State :=
  let j := { job 9 .dosing with
    doses := [{ code := 7, merged := 300, canister := 0, steps := 600, delivered := 600, topUp := 150, verdict := .none }] }
  let s := atBoundary j k []
  { s with station := { s.station with state := .waitDrive, firstRound := some dueFigures } }

theorem witness_TopUpRequestAnswered :
    (topUpWaiting { stocked with usable := 750 }).free 0 = 150 ∧ (topUpWaiting { stocked with usable := 749 }).free 0 = 149 ∧
    ((topUpWaiting stocked).drive (manifoldOf 0)).state = .idle ∧ ((topUpWaiting stocked).drive (manifoldOf 0)).halted = false ∧
    ((topUpWaiting stocked).canister 0).state = .ready ∧ ((topUpWaiting stocked).canister 0).offlinePending = false ∧
    (topUpWaiting stocked).station.state = .waitDrive ∧ (topUpWaiting stocked).station.firstRound = some dueFigures ∧
    ((topUpWaiting stocked).stationJob.map (fun j => j.doses.map (fun d => (d.code, d.topUp)))) = some [(7, 150)] ∧
    ((topUpWaiting { stocked with state := .short .float }).canister 0).state = .short .float := by decide +kernel

/-- A round of one dose of 600 steps at 1,500, with 5,000 free steps, at a settle. -/
def short1 : State :=
  let s := settling .round (job 9 .dosing) 10000
  { withCanister s { stocked with reserved := 0 } with station := { s.station with
      round := some { runs := [endedRun 7 0 600 1500], topUp := false, interrupted := false } } }

theorem witness_RoundFigures :
    (0 < 1500 ∧ 4500 * 200 ≤ 600 * 1500) ∧
    (short1.topUpFor { runs := [endedRun 7 0 600 1500], topUp := false, interrupted := false } 1125) =
      some (endedRun 7 0 600 1500, 150) ∧
    (short1.topUpFor { runs := [endedRun 7 0 600 1500], topUp := false, interrupted := false } 1126) = none := by decide +kernel

/-! ## Witnesses: the Mixer Pool -/

theorem witness_MixerOperationsEnd :
    ((inMixer (inMode .run) .loading (job 9 .mixing)).mixer .m0).state = .loading ∧
    ((inMixer (inMode .run) .loading (job 9 .mixing)).mixer .m0).tag = some 9 ∧
    ((inMixer (inMode .run) .reclamp (job 9 .mixing)).mixer .m0).state = .reclamp ∧
    ((inMixer (inMode .run) (.running 60) (job 9 .mixing)).mixer .m0).state = .running 60 ∧
    ((inMixer (inMode .run) (.running 60) (job 9 .mixing)).mixer .m0).mixTime = some 60 ∧
    (inMixer (inMode .run) (.running 60) (job 9 .mixing)).mixerJob .m0 = some (job 9 .mixing) ∧ 60 ≤ 60 ∧ 59 < 60 ∧
    ((inMixer (inMode .run) (.running 60) (job 9 .mixing)).mixer .m0).halted = false ∧ (job 9 .mixing).lidSkip = false ∧
    ({ job 9 .mixing with lidSkip := true } : Job).lidSkip = true ∧
    ({ State.reset.press with lane := [1, 2] } : LidPress).lane.length + 0 < 3 ∧
    3 ≤ ({ State.reset.press with lane := [1, 2], heldPlaces := 1 } : LidPress).lane.length + 1 ∧
    (State.reset.mixer .m0).state ≠ .loading := by decide

theorem witness_ImbalanceAndUnload :
    (inMixer (inMode .run) (.running 5) { job 9 .mixing with mixAttempts := 1 }).mixerJob .m0 =
      some { job 9 .mixing with mixAttempts := 1 } ∧ 1 < 2 ∧
    (inMixer (inMode .run) (.running 5) { job 9 .mixing with mixAttempts := 2 }).mixerJob .m0 =
      some { job 9 .mixing with mixAttempts := 2 } ∧
    ((inMixer (inMode .run) .unloading (job 9 .mixing)).mixer .m0).state = .unloading ∧
    ((inMixer (inMode .run) .unloading (job 9 .mixing)).mixer .m0).lidLanePlace = false ∧
    ({ (inMixer (inMode .run) .unloading (job 9 .mixing)).mixer .m0 with lidLanePlace := true } : Mixer).lidLanePlace = true ∧
    (State.reset.mixer .m1).state ≠ .unloading := by decide

/-- Mixer 0 holding a tin, another tin at the head of the mix lane. -/
def lined : State :=
  let s := inMixer (inMode .run) .holding (job 9 .mixed)
  { withJobs s [job 9 .mixed, job 12 .dosed] with mixers := { s.mixers with lane := [12], holdOrder := [.m0] } }

theorem witness_MixerChoiceAndMixTime :
    LineMode.run ≠ .quiet ∧ lined.mixers.lane = [12] ∧ lined.liveJob 12 = some (job 12 .dosed) ∧ lined.line.mode = .run ∧
    lined.winner 1 = some .m1 ∧ lined.winner 4 = none ∧ lined.mixers.holdOrder = [.m0] ∧
    lined.press.lane.length + lined.press.heldPlaces < 3 ∧ (lined.mixer .m0).state = .holding ∧
    (lined.mixer .m0).halted = false ∧ ¬ ({ lined.press with lane := [1, 2, 3] } : LidPress).lane.length + 0 < 3 := by
  decide +kernel

/-! ## Witnesses: the Lid Press and Magazine Counts -/

/-- A tin at the head of the lid lane of an idle press, with one lid for it. -/
def fed : State :=
  { withJobs (inMode .run) [job 9 .mixed] with
    press := { State.reset.press with lane := [9] }
    magazines := { tins := Vector.replicate 5 0, lids := Vector.replicate 5 1 } }

theorem witness_PressFeedsAndLidReports_tests :
    fed.press.lane = [9] ∧ fed.liveJob 9 = some (job 9 .mixed) ∧ fed.press.state = .idle ∧ fed.line.mode = .run ∧
    fed.press.halted = false ∧ 0 < fed.magazines.lids[(1 : Size)] ∧ ¬ 0 < State.reset.magazines.lids[(1 : Size)] ∧
    (inPress fed (.waitLid .retry) (job 9 .lidding)).press.state = .waitLid .retry ∧
    (inPress fed (.waitLid .retry) (job 9 .lidding)).pressJob = some (job 9 .lidding) := by decide +kernel

theorem witness_PressFeedsAndLidReports :
    (inPress (inMode .run) (.seating .feed) (job 9 .lidding)).press.state = .seating .feed ∧
    (inPress (inMode .run) (.seating .feed) (job 9 .lidding)).press.halted = false ∧
    (inPress (inMode .run) (.seating .feed) (job 9 .lidding)).pressJob = some (job 9 .lidding) ∧
    (inPress (inMode .run) .reseating (job 9 .lidding)).press.state = .reseating ∧
    (inPress (inMode .run) .reseating (job 9 .lidding)).pressJob = some (job 9 .lidding) ∧
    State.reset.press.state ≠ .seating .feed ∧ State.reset.press.state ≠ .reseating := by decide

theorem witness_ForceCheckDecides :
    (inPress (inMode .run) (.seating .seat) (job 9 .lidding)).press.state = .seating .seat ∧
    (inPress (inMode .run) (.seating .seat) (job 9 .lidding)).press.halted = false ∧
    (inPress (inMode .run) (.seating .seat) (job 9 .lidding)).pressJob = some (job 9 .lidding) ∧ (job 9 .lidding).lidAttempts = 0 ∧
    (inPress (inMode .run) (.seating .seat) (job 9 .lidding)).magazines.lids[(1 : Size)] = 0 ∧
    0 < ({ tins := Vector.replicate 5 0, lids := Vector.replicate 5 1 } : Magazines).lids[(1 : Size)] ∧
    1 ≤ ({ job 9 .lidding with lidAttempts := 1 } : Job).lidAttempts ∧
    ¬ ((State.reset.press.state = .seating .seat ∨ State.reset.press.state = .reseating) ∧ State.reset.press.halted = false) := by
  decide

theorem witness_EjectionEnds :
    (inPress (inMode .run) (.ejecting .reject) (job 9 .lidding)).press.state = .ejecting .reject ∧
    (inPress (inMode .run) (.ejecting .reject) (job 9 .lidding)).press.halted = false ∧
    (inPress (inMode .run) (.ejecting .reject) (job 9 .lidding)).press.tag = some 9 ∧
    (inPress (inMode .run) (.ejecting .reject) (job 9 .lidding)).press.failures ≠ 2 ∧
    ({ (inPress (inMode .run) (.ejecting .reject) (job 9 .lidding)).press with failures := 2 } : LidPress).failures = 2 ∧
    ({ (inPress (inMode .run) (.ejecting .reject) (job 9 .lidding)).press with halted := true } : LidPress).halted = true := by decide

theorem witness_StockRequests :
    State.reset.link.serves RequestKind.stockLoad.code [1, 4, 1] = true ∧
    State.reset.link.serves RequestKind.stockSet.code [2, 4, 255] = true ∧ (3 : Byte).toNat ≠ 1 ∧ (3 : Byte).toNat ≠ 2 ∧
    5 ≤ (5 : Byte).toNat ∧ (4 : Byte).toNat ≤ 4 ∧ (1 : Byte).toNat = (if Item.tins = .tins then 1 else 2) ∧
    (2 : Byte).toNat = (if Item.lids = .tins then 1 else 2) ∧ (4 : Byte).toNat = (4 : Size).val ∧ (1 : Byte) ≠ 0 := by decide

/-! ## Witnesses: Line Mode Control -/

/-- The idle timer in RUN with its elapsed. -/
def timed (elapsed : Nat) : State :=
  { inMode .run with line := { (inMode .run).line with idle := { elapsed := elapsed, running := true } } }

theorem witness_ClockTickCounts :
    (driveA (.stirring 3 90) 9).drives.a.state = .stirring 3 90 ∧ ((running0 false).drive .a).state = .dosing (someRun 598) ∧
    ((driveA (.faulted .dose) 9).drive .a).state = .faulted .dose ∧
    ((inMixer (inMode .run) (.running 5) (job 9 .mixing)).mixer .m0).state = .running 5 ∧
    ((inMixer (inMode .run) (.running 5) (job 9 .mixing)).mixer .m0).halted = false ∧
    ({ State.reset.mixer .m0 with halted := true } : Mixer).halted = true ∧
    (timed 298).line.idle.running = true ∧ (timed 298).line.idle.elapsed + 1 < (timed 298).line.settings.idleTimeout ∧
    (timed 299).line.settings.idleTimeout ≤ (timed 299).line.idle.elapsed + 1 ∧ State.reset.line.idle.running = false := by decide

theorem witness_ClockTickCounts_idle_drive :
    ((driveA .idle 3599).drive .a).state = .idle ∧ ((driveA .idle 3598).drive .a).state = .idle ∧
    (match exec .lineClockTick (driveA .idle 3599), exec .lineClockTick (driveA .idle 3598) with
     | .next t, .next u => decide ((t.drive .a).state = .stirring 0 90 ∧ (u.drive .a).state = .idle)
     | _, _ => false) = true := by decide

theorem witness_ClockTickCounts_reports :
    (match exec .lineClockTick (driveA (.faulted .dose) 5399), exec .lineClockTick (timed 299) with
     | .next t, .next u => decide (t.reports.queue.map (fun e => (e.record.kind, e.record.subject, e.record.value)) =
           [(ReportKind.manifoldStale, 0, 5400)] ∧ (t.drive .a).stale = true ∧
         u.reports.queue.map (fun e => (e.record.kind, e.record.detail)) = [(ReportKind.mode, 3)] ∧ u.weigh.tareValid = false ∧
         u.line.mode = .standby)
     | _, _ => false) = true := by decide

theorem witness_LineSetClamps :
    State.reset.link.serves RequestKind.lineSet.code [9, 0, 29, 2, 11, 0x0E, 0x11, 9, 10, 200, 201, 2] = true := by decide

theorem witness_LineModeTable :
    State.reset.link.serves RequestKind.lineMode.code [1] = true ∧ (3 : Byte) ≠ 1 ∧ (3 : Byte) ≠ 2 ∧ (3 : Byte) ≠ 4 ∧
    stopped.line.mode = .halted ∧ (1 : Byte) = (if WorkMode.run = .run then 1 else 2) ∧
    (2 : Byte) = (if WorkMode.quiet = .run then 1 else 2) ∧ State.reset.line.mode = .standby ∧ (inMode .waking).line.mode = .waking ∧
    (inMode .run).line.mode = WorkMode.run.line ∧ (inMode .run).line.mode ≠ WorkMode.quiet.line ∧ (inMode .sleep).line.mode = .sleep ∧
    (inMode .run).line.mode ≠ .sleep ∧ (inMode .run).line.mode ≠ .halted ∧ (inMode .run).line.presence.idle = true ∧
    ({ State.reset.line.presence with tinInLid := true } : Presence).idle = false := by decide

theorem witness_EstopHaltsTheLine :
    ((inMixer (inMode .run) (.running 5) (job 9 .mixing)).mixer .m0).state = .running 5 ∧
    (∀ e, ((inMixer (inMode .run) (.running 5) (job 9 .mixing)).mixer .m1).state ≠ .running e) :=
  ⟨by decide, (by intro e h; have h2 : MixerState.idle = .running e := h; cases h2)⟩

theorem witness_LineResumeTable :
    stopped.link.serves RequestKind.lineResume.code [] = true ∧ State.reset.line.mode ≠ .halted ∧ stopped.line.mode = .halted ∧
    stopped.line.estop = true ∧ ({ stopped.line with estop := false } : LineControl).estop = false ∧
    stopped.line.saved = some .run ∧ stopped.press.state ≠ .reseating := by decide

theorem witness_ResetTable :
    State.reset.link.serves RequestKind.reset.code [] = true ∧
    ({ State.reset.line.presence with tinInMix := true } : Presence).tinInMix = true ∧
    ((inMixer (inMode .run) .fault (job 9 .mixing)).mixer .m0).state = .fault ∧
    ((driveA (.stirring 3 90) 9).drive .a).state = .stirring 3 90 ∧ ((driveA (.faulted .stir) 9).drive .a).state = .faulted .stir ∧
    State.reset.occupied = false := by decide

/-- The reset state is not occupied, in the words of ResetTable. -/
theorem witness_ResetTable_accepted : ¬ (State.reset.line.presence.tinAtStation = true ∨ State.reset.line.presence.tinInMix = true ∨
    State.reset.line.presence.tinInLid = true ∨ ∃ k, (State.reset.mixer k).state = .fault) := by
  rintro (h | h | h | ⟨k, h⟩)
  · cases h
  · cases h
  · cases h
  · cases k <;> cases h

theorem witness_IdleExpiryAndWakeEnd :
    (timed 300).line.idle.running = true ∧ (timed 300).line.settings.idleTimeout ≤ (timed 300).line.idle.elapsed ∧
    (timed 299).line.idle.elapsed < (timed 299).line.settings.idleTimeout ∧ (timed 300).station.state ≠ .empty ∧
    (candidates []).station.state = .empty ∧ (inMode .waking).line.mode = .waking ∧
    ((inMixer (inMode .waking) (.running 5) (job 9 .mixing)).mixer .m0).state = .running 5 ∧ State.reset.line.mode ≠ .waking := by decide

/-! ## Witnesses: the further clauses, statement by statement -/

/-- A round of one run of 600 steps on canister 0 that has not ended. -/
def openRound : Round :=
  { runs := [{ code := 7, canister := 0, asked := 600, density := 1500, ended := none }], topUp := false, interrupted := false }

/-- A line in RUN whose station waits for a run of 600 steps on canister 0, one step short of its end, a pump step waiting. -/
def pumping : State :=
  let s := withCanister (atStation (inMode .run) .dosing (job 9 .dosing) none) stocked
  { s with
    pending := [.pumpStep .a]
    drives := { s.drives with a := { state := .dosing (someRun 599), stirClock := 5, stale := false, halted := false } }
    station := { s.station with round := some openRound } }

theorem witness_BankKeptInRange_dosing : pumping.bankOk ∧ pumping.tableOk ∧ ∃ t, step pumping = .next t :=
  ⟨by unfold State.bankOk Canister.inRange; decide +kernel, by unfold State.tableOk; decide, _, rfl⟩

theorem witness_BankKeptInRange_agreement : pumping.DosingOk where
  covered := by decide +kernel
  runs := by
    intro m r h
    cases m
    · have h2 : DriveState.dosing (someRun 599) = .dosing r := h
      injection h2 with h2
      subst h2
      exact ⟨by decide, by decide, by decide, by decide, _, rfl, _, List.mem_cons_self, by decide, by decide⟩
    · have h2 : DriveState.stirring 0 90 = .dosing r := h
      cases h2
  densities := by
    intro q h
    have h2 : some openRound = some q := h
    injection h2 with h2
    subst h2
    decide
  topUp := by
    intro f h
    have h2 : none = some f := h
    cases h2
  job := by
    intro t h _ _
    have h2 : some (9 : Tag) = some t := h
    injection h2 with h2
    exact ⟨_, List.mem_cons_self, h2, by decide⟩

theorem witness_BankKeptInRange_reserved : pumping.ReservedOk where
  reserved := by decide +kernel
  codes := by decide
  runs := by
    intro m r h
    cases m
    · have h2 : DriveState.dosing (someRun 599) = .dosing r := h
      injection h2 with h2
      subst h2
      exact ⟨by decide, _, List.mem_cons_self, by decide, by decide, _, List.mem_cons_self, by decide, by decide, by decide⟩
    · have h2 : DriveState.stirring 0 90 = .dosing r := h
      cases h2
  round := by
    intro q h _ _ x hx
    have h2 : some openRound = some q := h
    injection h2 with h2
    subst h2
    have h3 : x ∈ [_] := hx
    rw [List.mem_singleton] at h3
    subst h3
    exact ⟨fun _ => ⟨someRun 599, by decide, by decide, by decide, by decide, by decide⟩, fun e he => by cases he⟩
  due := by
    intro f h
    have h2 : none = some f := h
    cases h2

/-- A QUEUED job of which Line Mode Control knows, a command waiting. -/
def announced : State :=
  let s := withJobs State.reset [job 9 .queued]
  { s with pending := [.lineClockTick], line := { s.line with presence := { s.line.presence with jobsQueued := true } } }

theorem witness_LineRecordsAgree_presence : announced.tableOk ∧ announced.presenceOk ∧ ∃ t, step announced = .next t := by
  refine ⟨by unfold State.tableOk; decide, ⟨?_, ?_, ?_, ?_⟩, _, rfl⟩
  · exact ⟨fun _ => ⟨_, List.mem_cons_self, by decide⟩, fun _ => by decide⟩
  · decide
  · refine ⟨fun h => (by cases h), ?_⟩
    rintro (h | ⟨k, h⟩)
    · exact absurd rfl h
    · cases k <;> exact absurd rfl h
  · decide

theorem witness_FinishedRecordsReadOnly_table : announced.tableOk ∧ ∃ t, step announced = .next t :=
  ⟨by unfold State.tableOk; decide, _, rfl⟩

theorem witness_QueriesAnswerAndChangeNothing_refused :
    State.reset.link.serves RequestKind.jobQuery.code [0, 0] = true ∧ beNat [0, 0] = 0 ∧
    State.reset.link.serves RequestKind.canisterQuery.code [16] = true ∧ 16 ≤ (16 : Byte).toNat := by decide

/-- A parsed ORDER with one good line. -/
def goodFields : OrderBody :=
  { tag := 9, size := 4, base := 3, strength := 10, flags := 0x07, mix := 0, count := 8, lines := [(250, 60000), (1, 1)] }

theorem witness_OrderChecksInSeries_length :
    goodOrder = [0, 9, 0, 0, 100, 0, 0, 0, 1, 7, 0, 30] ∧ parseOrder goodOrder = some
      { tag := 9, size := 0, base := 0, strength := 100, flags := 0, mix := 0, count := 1, lines := [(7, 30)] } ∧
    (orderBody 100 0 [] 0).length = 9 + 3 * 0 ∧ parseOrder (orderBody 100 0 [7, 0] 1) = none ∧
    (orderBody 100 0 [7, 0] 1).length ≠ 9 + 3 * 1 := by decide

theorem witness_OrderChecksInSeries_fields :
    goodFields.fieldError = none ∧ ({ goodFields with tag := 0 } : OrderBody).fieldError = some (1, 0) ∧
    ({ goodFields with size := 5 } : OrderBody).fieldError = some (2, 0) ∧
    ({ goodFields with base := 4 } : OrderBody).fieldError = some (3, 0) ∧
    ({ goodFields with strength := 201 } : OrderBody).fieldError = some (4, 0) ∧
    ({ goodFields with flags := 0x08 } : OrderBody).fieldError = some (5, 0) ∧
    ((0x08 : Byte).getLsbD 3 = true ∧ (0x80 : Byte).getLsbD 7 = true ∧ ∀ i < 8, 3 ≤ i → (0x07 : Byte).getLsbD i = false) ∧
    ({ goodFields with count := 9 } : OrderBody).fieldError = some (7, 0) ∧
    ({ goodFields with lines := [(250, 60000)] ++ (251, 0) :: [] } : OrderBody).fieldError = some (8, 2) ∧
    ({ goodFields with lines := [] ++ (250, 60001) :: [(0, 0)] } : OrderBody).fieldError = some (9, 1) := by decide

/-- 31 unfinished jobs and a finished one. -/
def fullWithFinished : State :=
  withJobs State.reset ({ job 5 .done with finish := some { number := 1, time := 0 } } :: (List.range 31).map (fun t => job (t + 100) .queued))

/-- The dose that 3 steps of colourant 7 ask for, worked by the calculator's hypotheses. -/
theorem witness_OrderAdmission_calculate :
    ((mergeLines [] 1 [(7, 30)]).map (fun m => (m, stepsOf m.amount (Config.volume 0) 100))).filter (fun x => x.2 ≠ 0) =
      [({ code := 7, amount := 30, line := 1 }, 3)] ∧
    3 * 5 ≤ Config.volume 0 * (withCanister State.reset stocked).line.settings.loadLimits[(0 : Base)] ∧
    ((withCanister State.reset stocked).canister 0).code = 7 ∧ ((withCanister State.reset stocked).canister 0).state = .ready ∧
    (withCanister State.reset stocked).drive .a = { state := .stirring 0 90, stirClock := 4294967295, stale := true, halted := false } ∧
    3 ≤ (withCanister State.reset stocked).free 0 := by decide +kernel

theorem witness_OrderAdmission_room :
    (withCanister State.reset stocked).line.mode = .standby ∧ (withCanister (inMode .run) stocked).line.mode ≠ .standby ∧
    ((withCanister State.reset stocked).orders.jobs.filter (fun j => j.tag ≠ 9)).length < 32 ∧
    32 ≤ (fullWithFinished.orders.jobs.filter (fun j => j.tag ≠ 9)).length ∧
    (fullWithFinished.orders.jobs.filter (fun j => j.finished)).map (·.tag) = [5] ∧ fullWithFinished.tableFull = false ∧
    (∀ j ∈ fullWithFinished.orders.jobs, j.tag = 9 → j.finished = true) := by decide +kernel

theorem witness_CancelByState_tag_0 :
    State.reset.link.serves RequestKind.cancel.code [0, 0] = true ∧
    State.reset.link.serves RequestKind.release.code [0, 0] = true ∧ beNat [0, 0] = 0 := by decide

theorem witness_ReleaseFreesFinishedOnly_tag_0 :
    State.reset.link.serves RequestKind.release.code [0, 0] = true ∧ beNat [0, 0] = 0 := by decide

theorem witness_CanisterStateActions_index :
    State.reset.link.serves RequestKind.canisterState.code [16, 1] = true ∧ 16 ≤ (16 : Byte).toNat ∧
    ((withCanister (running0 false) { stocked with state := .check }).canister 0).state = .check ∧
    (withCanister (running0 false) { stocked with state := .check }).running 0 = true := by decide

theorem witness_RefillAddsSteps_index :
    State.reset.link.serves RequestKind.refill.code [16, 0, 0, 0, 1] = true ∧ 16 ≤ (16 : Byte).toNat := by decide

theorem witness_RunEndAndVerdictNotices_short :
    (short0 true 0).canister 0 = { stocked with state := .short .belowReserved, tripped := true, usable := 0 } ∧
    ((short0 false 5000).canister 0).tripped = false ∧
    (((short0 false 599).bankRunEnd 0 600 true).canister 0).usable < (((short0 false 599).bankRunEnd 0 600 true).canister 0).reserved ∧
    (((short0 false 5000).bankRunEnd 0 600 false).canister 0).reserved ≤ (((short0 false 5000).bankRunEnd 0 600 false).canister 0).usable := by
  decide +kernel

theorem witness_RunEndAndVerdictNotices_station :
    pumping.station.state = .dosing ∧ pumping.station.halted = false ∧
    (pumping.station.round.map (fun q => q.runs.map (fun x => (x.canister, x.ended)))) = some [((0 : CanisterId), none)] ∧
    ({ pumping.station with halted := true } : Station).halted = true ∧ (pumping.drive .a).state = .dosing (someRun 599) ∧
    (pumping.drive .b).state = .stirring 0 90 := by decide +kernel

theorem witness_SelectionFollowsRanks_figures :
    (running0 true).free 0 = 3800 ∧ ((running0 true).canister 0).state = .ready ∧
    ((running0 true).drive .a).state = .dosing { someRun 598 with topUp := true } ∧
    (running0 false).free 0 = 4400 ∧ ((running0 false).drive .a).state = .dosing (someRun 598) ∧
    carriedOnly.free 0 = 0 ∧ (carriedOnly.canister 0).state = .offline ∧
    (job 12 (.parked .preempt 1)).parkNumber = 1 ∧ (candidates [rushJob]).rushCandidate = true := by decide +kernel

theorem witness_TransfersEnd_shelves :
    (∀ k : ShelfId, k ≠ 3 → (candidates []).rack.shelves[k] = .free) ∧
    (∃ k : ShelfId, k ≠ 0 ∧ (candidates []).rack.shelves[k] ≠ .free) := by decide +kernel

theorem witness_TransfersEnd_renumbered :
    let s := atStation (inMode .run) .parking (job 9 .dosing) (some (.park 0 .preempt))
    s.station.state = .parking ∧ s.station.halted = false ∧ s.station.transfer = some (.park 0 .preempt) ∧
    s.station.job = some 9 ∧ s.stationCancelled = false ∧
    4294967295 ≤ ({ s.rack with parkCounter := 4294967295 } : Rack).parkCounter := by decide

theorem witness_SettleEnds_operations :
    judged.station.job = some 9 ∧ judged.liveJob 9 = some (job 9 .dosing) ∧
    (judged.station.round.map (fun r => r.runs.map (fun x => (x.code, x.canister)))) = some [(7, (0 : CanisterId)), (8, 8)] ∧
    (underdosed.station.round.map (fun r => r.runs.map (fun x => (x.code, x.canister)))) = some [(7, (0 : CanisterId))] ∧
    judged.magazines.tins[(1 : Size)] = 0 ∧ 0 < (candidates []).magazines.tins[(1 : Size)] ∧
    judged.mixers.lane.length + 0 < 3 ∧
    3 ≤ ({ judged.mixers with lane := [1, 2], heldPlace := true } : MixerPool).lane.length + 1 := by decide +kernel

/-- A wake that ends with a round whose runs have ended. -/
def wakeRound : State :=
  let s := atStation (inMode .waking) .dosing (job 9 .dosing) none
  { s with station := { s.station with
      halted := true
      round := some { runs := [endedRun 7 0 250 1500], topUp := false, interrupted := true } } }

/-- A wake that ends with a lidless reseat, and so many lids. -/
def wakeReseat (lids : Nat) : State :=
  let s := inPress (inMode .waking) .reseating (job 9 .lidding)
  { s with magazines := { s.magazines with lids := Vector.replicate 5 lids } }

theorem witness_IdleExpiryAndWakeEnd_wake :
    wakeRound.line.mode = .waking ∧ wakeRound.station.state = .dosing ∧
    (wakeRound.station.round.map (fun q => q.runs.all (fun x => x.ended ≠ none))) = some true ∧
    (inMode .waking).station.state ≠ .dosing ∧ (inMode .waking).line.presence.idle = true ∧
    (wakeReseat 1).line.mode = .waking ∧ (wakeReseat 1).press.state = .reseating ∧ (wakeReseat 1).press.lidInHead = false ∧
    (wakeReseat 1).pressJob = some (job 9 .lidding) ∧ (wakeReseat 1).magazines.lids[(job 9 .lidding).size] = 1 ∧
    0 < (wakeReseat 2).magazines.lids[(job 9 .lidding).size] ∧ (wakeReseat 0).magazines.lids[(job 9 .lidding).size] = 0 ∧
    wakeRound.press.state ≠ .reseating := by decide +kernel

/-- R156, R154: the end of the wake of an idle line enters RUN, starts the timer and posts MODE 1. -/
theorem test_wake_end :
    (match exec .wakeEnd (inMode .waking) with
     | .next t => decide (t.line.mode = .run ∧ t.line.idle = { elapsed := 0, running := true } ∧
         t.reports.queue.map (fun x => (x.record.kind, x.record.detail)) = [(.mode, 1)])
     | _ => false) = true := by decide +kernel

theorem witness_FullQueuePosting_room :
    (List.replicate 63 (entry true)).length < 64 ∧ ¬ (List.replicate 64 (entry true)).length < 64 := by decide +kernel

/-- A station in a state with a job, its halted flag so. -/
def waitingAs (x : StationState) (halted : Bool) : State :=
  let s := atStation (inMode .run) x (job 9 .dosing) none
  { s with station := { s.station with halted := halted } }

theorem witness_StandingTestsFrame_station :
    (waitingAs .blocked true).station.halted = true ∧ (waitingAs .blocked false).station.halted = false ∧
    (waitingAs .blocked false).station.state = .blocked ∧ (waitingAs .waitDrive false).station.state = .waitDrive ∧
    (waitingAs .waitDrive false).station.firstRound = none ∧ (waitingAs .held false).station.state = .held ∧
    (waitingAs .held false).mixers.lane.length + 0 < 3 ∧
    3 ≤ ({ (waitingAs .held false).mixers with lane := [1, 2], heldPlace := true } : MixerPool).lane.length + 1 ∧
    (waitingAs .dosing false).station.state ≠ .empty ∧ (waitingAs .dosing false).station.state ≠ .waitDrive ∧
    (waitingAs .dosing false).station.state ≠ .blocked ∧ (waitingAs .dosing false).station.state ≠ .held ∧
    (candidates [job 9 .queued]).station.state = .empty ∧ (candidates [job 9 .queued]).station.halted = false ∧
    (candidates [job 9 .queued]).maySelect = true ∧ (candidates [job 9 .queued]).selection = some (.draw (job 9 .queued)) ∧
    (candidates [job 12 (.parked .preempt 1)]).selection = some (.unpark (job 12 (.parked .preempt 1))) ∧
    (candidates [job 12 (.parked .preempt 1)]).rack.shelfHolding 12 = some 3 ∧ (candidates []).selection = none := by decide +kernel

theorem witness_StandingTestsFrame_drives :
    (withJobs State.reset [job 9 .queued]).line.mode = .standby ∧ (withJobs State.reset [job 9 .queued]).orders.jobs.any (·.isQueued) = true ∧
    (inMode .run).line.mode ≠ .standby ∧ ((driveA .idle 3600).drive .a).state = .idle ∧
    (driveA .idle 3600).line.settings.stirInterval * 60 ≤ ((driveA .idle 3600).drive .a).stirClock ∧
    ((driveA .idle 3600).drive .a).halted = false ∧ (driveA .idle 3600).line.mode = .run ∧
    ((driveA (.stirring 3 90) 3600).drive .a).state ≠ .idle ∧
    ¬ ((driveA .idle 3599).line.settings.stirInterval * 60 ≤ ((driveA .idle 3599).drive .a).stirClock ∨
      ((driveA .idle 3599).drive .a).stale = true) := by decide

theorem witness_StandingTestsFrame_lanes :
    fed.press.lane = 9 :: [] ∧ fed.liveJob 9 = some (job 9 .mixed) ∧ fed.press.state = .idle ∧ fed.line.mode = .run ∧
    fed.press.halted = false ∧ 0 < fed.magazines.lids[(job 9 .mixed).size] ∧ State.reset.magazines.lids[(job 9 .mixed).size] = 0 ∧
    (inPress fed (.waitLid .retry) (job 9 .lidding)).press.state = .waitLid .retry ∧
    (inPress fed (.waitLid .retry) (job 9 .lidding)).pressJob = some (job 9 .lidding) ∧
    lined.mixers.lane = 12 :: [] ∧ lined.liveJob 12 = some (job 12 .dosed) ∧ lined.winner (job 12 .dosed).size = some .m1 ∧
    lined.mixers.holdOrder = .m0 :: [] ∧ lined.press.lane.length + lined.press.heldPlaces < 3 ∧
    (lined.mixer .m0).state = .holding ∧ (lined.mixer .m0).halted = false := by decide +kernel

theorem witness_FinishingAJob_other_notices :
    State.reset.liveJob 9 = none ∧ (oneJob .dosed).liveJob 9 = some (job 9 .dosed) ∧
    (job 9 .dosed).state.mayFinish .cancelled = false ∧ (oneJob .done).liveJob 9 = none ∧
    ((short0 false 600).canister 0).state = .short .belowReserved ∧ stocked.state = .ready := by decide

theorem witness_PressFeedsAndLidReports_counts :
    0 < fed.magazines.lids[(1 : Size)] ∧ State.reset.magazines.lids[(1 : Size)] = 0 ∧ State.reset.press.tag = none ∧
    (inPress fed .reseating (job 9 .lidding)).press.tag = some 9 := by decide

theorem witness_StockRequests_others : (0 : Size) ≠ 4 := by decide

theorem witness_LineModeTable_entry :
    LineMode.sleep ≠ .halted ∧ LineMode.run ≠ .standby ∧ LineMode.run ≠ .sleep ∧ (candidates []).station.state = .empty ∧
    State.reset.station.state ≠ .empty := by decide

theorem witness_EstopHaltsTheLine_runs :
    (pumping.drive .a).state = .dosing (someRun 599) ∧ pumping.station.state = .dosing ∧
    (∀ k, k ≠ .a → ∀ x, (pumping.drive k).state ≠ .dosing x) ∧ (topUpWaiting stocked).station.state = .waitDrive ∧
    (topUpWaiting stocked).station.firstRound = some dueFigures ∧ pumping.station.state ≠ .waitDrive ∧
    ((inMode .run).station.firstRound = none ∧ ∀ m r, ((inMode .run).drive m).state ≠ .dosing r) := by
  refine ⟨by decide, by decide, ?_, by decide +kernel, by decide +kernel, by decide, by decide, ?_⟩
  · intro k hk x h
    cases k
    · exact hk rfl
    · have h2 : DriveState.stirring 0 90 = .dosing x := h
      cases h2
  · intro m r h
    cases m
    · have h2 : DriveState.stirring 0 90 = .dosing r := h
      cases h2
    · have h2 : DriveState.stirring 0 90 = .dosing r := h
      cases h2

/-- A line halted with a mode saved, E-STOP released, a job QUEUED or none. -/
def resumable (saved : LineMode) (queued : Bool) : State :=
  { State.reset with
    line := { State.reset.line with
      mode := .halted
      saved := some saved
      presence := { State.reset.line.presence with jobsQueued := queued } } }

theorem witness_LineResumeTable_standby_and_sleep :
    (resumable .standby false).line.mode = .halted ∧ (resumable .standby false).line.estop = false ∧
    (resumable .standby false).line.saved = some .standby ∧ (resumable .standby false).line.presence.idle = true ∧
    (resumable .sleep false).line.saved = some .sleep ∧ (resumable .sleep false).line.presence.idle = true ∧
    (resumable .standby true).line.presence.idle = false ∧ (resumable .sleep true).line.presence.idle = false ∧
    (resumable .standby false).press.state ≠ .reseating ∧
    (resumable .sleep false).link.serves RequestKind.lineResume.code [] = true := by decide

/-- R161: a resume enters the saved STANDBY or SLEEP at once on an idle line, and WAKING on one that is not. -/
theorem test_resume_modes :
    ([resumable .standby false, resumable .sleep false, resumable .standby true, resumable .sleep true].map (fun s =>
      match exec (.lineResume []) s with
      | .next t => t.line.mode
      | _ => .halted)) = [.standby, .sleep, .waking, .waking] := by decide +kernel

/-- R76, R94: a run halted by E-STOP adds the 599 steps it pumped to its dose and takes them from its canister. -/
theorem test_estop_ends_run :
    (match exec .estopAssertion pumping with
     | .next t => decide (t.orders.jobs.map (fun j => j.doses.map (·.delivered)) = [[599]] ∧
         (t.canister 0).usable = 4401 ∧ (t.canister 0).reserved = 1 ∧ t.station.state = .dosing ∧
         t.station.round.map (·.interrupted) = some true)
     | _ => false) = true := by decide +kernel

end Sys2Proof.Tests
end

section
/-! PROOFS. The dose calculation: the merged list of a formula and the steps of its lines (R26, R27), the canister chosen for a dose
(R31), and the figures of a round with the top-up they allow (R34 to R38). -/

namespace Sys2Proof.DoseCalculation

open Sys2Proof Sys2Proof.Machine

/-! ## Canisters and drives in service -/

theorem inService_iff (k : Canister) : k.inService = true ↔ k.state = .ready ∨ k.state = .low := by
  simp [Canister.inService]

theorem isFaulted_eq_false_iff (x : Drive) : x.isFaulted = false ↔ ∀ d, x.state ≠ .faulted d := by
  unfold Drive.isFaulted
  cases x.state <;> simp

theorem candidate_iff (s : State) (earlier : List Dose) (code steps : Nat) (c : CanisterId) :
    s.candidate earlier code steps c = true ↔
      (s.canister c).code = code ∧ ((s.canister c).state = .ready ∨ (s.canister c).state = .low) ∧
        (∀ d, (s.drive (manifoldOf c)).state ≠ .faulted d) ∧ steps ≤ s.freeFor earlier c := by
  simp [State.candidate, inService_iff, isFaulted_eq_false_iff, and_assoc]

/-! ## The canister chosen (R31) -/

/-- The outcome of comparing the canisters of a list: none of an empty list, and otherwise one of the list that no other beats in free
steps, nor equals at a lower index. -/
def BestOf (s : State) (earlier : List Dose) (l : List CanisterId) : Option CanisterId → Prop
  | none => l = []
  | some c => c ∈ l ∧ ∀ e ∈ l,
      s.freeFor earlier e < s.freeFor earlier c ∨ (s.freeFor earlier e = s.freeFor earlier c ∧ c.val ≤ e.val)

/-- A canister of a higher index than those compared before takes their best one's place only with more free steps. -/
theorem bestOf_better {s : State} {earlier : List Dose} {l : List CanisterId} {best : Option CanisterId} {c : CanisterId}
    (h : BestOf s earlier l best) (hc : ∀ e ∈ l, e < c) : BestOf s earlier (l ++ [c]) (s.better earlier best c) := by
  cases best with
  | none =>
    have hl : l = [] := h
    subst hl
    simp [State.better, BestOf]
  | some b =>
    obtain ⟨hb, hbest⟩ := h
    have hbc : b.val < c.val := hc b hb
    by_cases hlt : s.freeFor earlier b < s.freeFor earlier c
    · rw [State.better, if_pos hlt]
      refine ⟨by simp, fun e he => ?_⟩
      rcases List.mem_append.1 he with hel | hec
      · have := hbest e hel
        omega
      · simp [List.mem_singleton.1 hec]
    · rw [State.better, if_neg hlt]
      refine ⟨List.mem_append_left _ hb, fun e he => ?_⟩
      rcases List.mem_append.1 he with hel | hec
      · exact hbest e hel
      · rw [List.mem_singleton.1 hec]
        omega

theorem bestOf_foldl_better (s : State) (earlier : List Dose) (l : List CanisterId) (hl : l.Pairwise (· < ·)) :
    BestOf s earlier l (l.foldl (s.better earlier) none) := by
  induction l using List.reverseRecOn with
  | nil => exact rfl
  | append_singleton l c ih =>
    obtain ⟨hfront, -, hlast⟩ := List.pairwise_append.1 hl
    rw [List.foldl_append]
    exact bestOf_better (ih hfront) (fun e he => hlast e he c (List.mem_singleton.2 rfl))

/-- The choice for a dose is the best of the candidates, which stand in the order of their indices. -/
theorem bestOf_chooseCanister (s : State) (earlier : List Dose) (code steps : Nat) :
    BestOf s earlier ((List.finRange 16).filter (s.candidate earlier code steps)) (s.chooseCanister earlier code steps) :=
  bestOf_foldl_better s earlier _ ((List.pairwise_lt_finRange 16).filter _)

theorem chooseCanister_some {s : State} {earlier : List Dose} {code steps : Nat} {c : CanisterId}
    (h : s.chooseCanister earlier code steps = some c) :
    s.candidate earlier code steps c = true ∧ ∀ e, s.candidate earlier code steps e = true →
      s.freeFor earlier e < s.freeFor earlier c ∨ (s.freeFor earlier e = s.freeFor earlier c ∧ c.val ≤ e.val) := by
  have hbest := bestOf_chooseCanister s earlier code steps
  rw [h] at hbest
  obtain ⟨hc, hall⟩ := hbest
  exact ⟨(List.mem_filter.1 hc).2, fun e he => hall e (List.mem_filter.2 ⟨List.mem_finRange e, he⟩)⟩

theorem chooseCanister_none {s : State} {earlier : List Dose} {code steps : Nat}
    (h : s.chooseCanister earlier code steps = none) (e : CanisterId) : s.candidate earlier code steps e = false := by
  have hnil := bestOf_chooseCanister s earlier code steps
  rw [h] at hnil
  exact Bool.eq_false_iff.2 (List.filter_eq_nil_iff.1 hnil e (List.mem_finRange e))

/-- Settles O27: the fold over the candidates in index order keeps the best of those it has passed. -/
theorem chosenCanisterIsBest : Obligations.ChosenCanisterIsBest := by
  intro s earlier code steps
  refine ⟨fun c hc => ?_, chooseCanister_none, fun c => rfl⟩
  obtain ⟨hcand, hbest⟩ := chooseCanister_some hc
  exact ⟨(candidate_iff s earlier code steps c).1 hcand, hbest⟩

/-! ## The merged list (R26) -/

/-- The sum of the amounts that a formula sends for a code. -/
def amountFor (lines : List (Nat × Nat)) (code : Nat) : Nat := ((lines.filter (fun x => x.1 = code)).map (·.2)).sum

/-- A line of a formula, numbered from 1, is the first one with a code. -/
def OpenedAt (lines : List (Nat × Nat)) (line code : Nat) : Prop :=
  1 ≤ line ∧ (∃ a, lines[line - 1]? = some (code, a)) ∧ ∀ i < line - 1, ∀ x, lines[i]? = some x → x.1 ≠ code

/-- A merged line with an amount added where it is of the code. -/
def addTo (code amount : Nat) (m : MergedLine) : MergedLine :=
  if m.code = code then { m with amount := m.amount + amount } else m

@[simp] theorem addTo_code (code amount : Nat) (m : MergedLine) : (addTo code amount m).code = m.code := by
  unfold addTo; split <;> rfl

@[simp] theorem addTo_line (code amount : Nat) (m : MergedLine) : (addTo code amount m).line = m.line := by
  unfold addTo; split <;> rfl

theorem addTo_amount (code amount : Nat) (m : MergedLine) :
    (addTo code amount m).amount = m.amount + if m.code = code then amount else 0 := by
  unfold addTo; split <;> rfl

theorem mergeLine_of_mem {ms : List MergedLine} {code : Nat} (h : code ∈ ms.map (·.code)) (line amount : Nat) :
    mergeLine ms line code amount = ms.map (addTo code amount) := by
  have hany : (ms.any fun m => m.code == code) = true := by simpa using h
  rw [mergeLine, if_pos hany]
  rfl

theorem mergeLine_of_not_mem {ms : List MergedLine} {code : Nat} (h : code ∉ ms.map (·.code)) (line amount : Nat) :
    mergeLine ms line code amount = ms ++ [{ code := code, amount := amount, line := line }] := by
  have hany : ¬ (ms.any fun m => m.code == code) = true := by simpa using h
  rw [mergeLine, if_neg hany]

theorem amountFor_append_singleton (lines : List (Nat × Nat)) (x : Nat × Nat) (code : Nat) :
    amountFor (lines ++ [x]) code = amountFor lines code + if x.1 = code then x.2 else 0 := by
  unfold amountFor
  by_cases hx : x.1 = code <;> simp [hx]

theorem amountFor_eq_zero {lines : List (Nat × Nat)} {code : Nat} (h : ∀ x ∈ lines, x.1 ≠ code) : amountFor lines code = 0 := by
  rw [amountFor, List.filter_eq_nil_iff.2 (by simpa using h)]
  rfl

theorem OpenedAt.line_le {lines : List (Nat × Nat)} {line code : Nat} (h : OpenedAt lines line code) : line ≤ lines.length := by
  obtain ⟨hpos, ⟨a, ha⟩, -⟩ := h
  have := (List.getElem?_eq_some_iff.1 ha).1
  omega

/-- A later formula line leaves the opening line of a code as it was. -/
theorem OpenedAt.append {lines : List (Nat × Nat)} {line code : Nat} (h : OpenedAt lines line code) (x : Nat × Nat) :
    OpenedAt (lines ++ [x]) line code := by
  have hle := h.line_le
  obtain ⟨hpos, ⟨a, ha⟩, hfirst⟩ := h
  refine ⟨hpos, ⟨a, ?_⟩, fun i hi y hy => hfirst i hi y ?_⟩
  · rwa [List.getElem?_append_left (by omega)]
  · rwa [List.getElem?_append_left (by omega)] at hy

/-- A line whose code no line before it has opens that code. -/
theorem openedAt_last {lines : List (Nat × Nat)} {x : Nat × Nat} (h : ∀ y ∈ lines, y.1 ≠ x.1) :
    OpenedAt (lines ++ [x]) (lines.length + 1) x.1 := by
  refine ⟨by omega, ⟨x.2, by simp⟩, fun i hi y hy => h y ?_⟩
  rw [List.getElem?_append_left (by omega)] at hy
  exact List.mem_of_getElem? hy

/-- A list is the merged list of the formula lines taken so far, but for the codes being distinct (R26). -/
structure MergedOf (taken : List (Nat × Nat)) (ms : List MergedLine) : Prop where
  ordered : (ms.map (·.line)).Pairwise (· < ·)
  covers : ∀ x ∈ taken, x.1 ∈ ms.map (·.code)
  amounts : ∀ m ∈ ms, m.amount = amountFor taken m.code
  opened : ∀ m ∈ ms, OpenedAt taken m.line m.code

theorem mergedOf_nil : MergedOf [] [] where
  ordered := by simp
  covers := by simp
  amounts := by simp
  opened := by simp

/-- A line of a code that is in the list adds its amount to that code's line. -/
theorem MergedOf.add {taken : List (Nat × Nat)} {ms : List MergedLine} (h : MergedOf taken ms) (x : Nat × Nat)
    (hx : x.1 ∈ ms.map (·.code)) : MergedOf (taken ++ [x]) (ms.map (addTo x.1 x.2)) where
  ordered := by simpa [Function.comp_def] using h.ordered
  covers := fun y hy => by
    have hcodes : (ms.map (addTo x.1 x.2)).map (·.code) = ms.map (·.code) := by simp [Function.comp_def]
    rw [hcodes]
    rcases List.mem_append.1 hy with hy | hy
    · exact h.covers y hy
    · rwa [List.mem_singleton.1 hy]
  amounts := List.forall_mem_map.2 fun m hm => by
    rw [addTo_amount, addTo_code, amountFor_append_singleton, h.amounts m hm]
    simp only [eq_comm]
  opened := List.forall_mem_map.2 fun m hm => by
    rw [addTo_line, addTo_code]
    exact (h.opened m hm).append x

/-- A line of a code that is not in the list opens a line at its end. -/
theorem MergedOf.snoc {taken : List (Nat × Nat)} {ms : List MergedLine} (h : MergedOf taken ms) (x : Nat × Nat)
    (hx : x.1 ∉ ms.map (·.code)) :
    MergedOf (taken ++ [x]) (ms ++ [{ code := x.1, amount := x.2, line := taken.length + 1 }]) := by
  have hnew : ∀ y ∈ taken, y.1 ≠ x.1 := fun y hy heq => hx (heq ▸ h.covers y hy)
  refine ⟨?_, fun y hy => ?_, fun m hm => ?_, fun m hm => ?_⟩
  · rw [List.map_append]
    refine List.pairwise_append.2 ⟨h.ordered, by simp, List.forall_mem_map.2 fun m hm n hn => ?_⟩
    have hle := (h.opened m hm).line_le
    rw [List.mem_singleton.1 hn]
    exact Nat.lt_succ_of_le hle
  · rw [List.map_append]
    rcases List.mem_append.1 hy with hy | hy
    · exact List.mem_append_left _ (h.covers y hy)
    · simp [List.mem_singleton.1 hy]
  · rw [amountFor_append_singleton]
    rcases List.mem_append.1 hm with hm | hm
    · have hne : x.1 ≠ m.code := fun heq => hx (heq ▸ List.mem_map_of_mem hm)
      rw [if_neg hne, h.amounts m hm, Nat.add_zero]
    · rw [List.mem_singleton.1 hm, if_pos rfl, amountFor_eq_zero hnew, Nat.zero_add]
  · rcases List.mem_append.1 hm with hm | hm
    · exact (h.opened m hm).append x
    · rw [List.mem_singleton.1 hm]
      exact openedAt_last hnew

theorem MergedOf.mergeLine {taken : List (Nat × Nat)} {ms : List MergedLine} (h : MergedOf taken ms) (x : Nat × Nat) :
    MergedOf (taken ++ [x]) (mergeLine ms (taken.length + 1) x.1 x.2) := by
  by_cases hx : x.1 ∈ ms.map (·.code)
  · rw [mergeLine_of_mem hx]
    exact h.add x hx
  · rw [mergeLine_of_not_mem hx]
    exact h.snoc x hx

theorem MergedOf.mergeLines {taken : List (Nat × Nat)} {ms : List MergedLine} (h : MergedOf taken ms) (rest : List (Nat × Nat)) :
    MergedOf (taken ++ rest) (mergeLines ms (taken.length + 1) rest) := by
  induction rest generalizing taken ms with
  | nil => simpa [Machine.mergeLines] using h
  | cons x rest ih => simpa [Machine.mergeLines] using ih (h.mergeLine x)

theorem mergedOf_mergeLines (lines : List (Nat × Nat)) : MergedOf lines (mergeLines [] 1 lines) :=
  mergedOf_nil.mergeLines lines

/-! ## The bounds of a merged list (R26) -/

/-- The codes of a merged list are distinct codes of its formula, so it has no more lines than the formula. -/
theorem length_mergeLines_le (lines : List (Nat × Nat)) : (mergeLines [] 1 lines).length ≤ lines.length := by
  have hsub : (mergeLines [] 1 lines).map (·.code) ⊆ lines.map (·.1) := List.forall_mem_map.2 fun m hm => by
    obtain ⟨-, ⟨a, ha⟩, -⟩ := (mergedOf_mergeLines lines).opened m hm
    exact List.mem_map.2 ⟨_, List.mem_of_getElem? ha, rfl⟩
  have hnodup : ((mergeLines [] 1 lines).map (·.code)).Nodup := mergeLines_nodup lines [] 1 (by simp)
  simpa using (List.subperm_of_subset hnodup hsub).length_le

theorem le_amountFor {lines : List (Nat × Nat)} {code a : Nat} (h : (code, a) ∈ lines) : a ≤ amountFor lines code :=
  List.le_sum_of_mem (List.mem_map.2 ⟨(code, a), by simpa using h, rfl⟩)

theorem amountFor_le {lines : List (Nat × Nat)} {bound : Nat} (h : ∀ x ∈ lines, x.2 ≤ bound) (code : Nat) :
    amountFor lines code ≤ lines.length * bound := by
  have hsum : amountFor lines code ≤ (lines.filter (fun x => x.1 = code)).length * bound := by
    simpa [amountFor] using List.sum_le_card_nsmul ((lines.filter (fun x => x.1 = code)).map (·.2)) bound
      (List.forall_mem_map.2 fun x hx => h x (List.mem_filter.1 hx).1)
  exact hsum.trans (Nat.mul_le_mul_right _ (List.length_filter_le _ _))

theorem mergeLines_amount_bounds {lines : List (Nat × Nat)} (hlen : lines.length ≤ 8)
    (h : ∀ x ∈ lines, 1 ≤ x.2 ∧ x.2 ≤ 60000) {m : MergedLine} (hm : m ∈ mergeLines [] 1 lines) :
    1 ≤ m.amount ∧ m.amount ≤ 480000 := by
  obtain ⟨-, ⟨a, ha⟩, -⟩ := (mergedOf_mergeLines lines).opened m hm
  have hmem : (m.code, a) ∈ lines := List.mem_of_getElem? ha
  have hlow := (h _ hmem).1.trans (le_amountFor hmem)
  have hhigh := amountFor_le (fun x hx => (h x hx).2) m.code
  rw [(mergedOf_mergeLines lines).amounts m hm]
  omega

/-! ## The steps of a merged line (R27) -/

/-- The steps are the one whole number n with P in [500,000 n - 250,000, 500,000 n + 250,000): the nearest, a half going up. -/
theorem stepsOf_nearest (amount volume strength : Nat) :
    500000 * stepsOf amount volume strength ≤ amount * volume * strength + 250000 ∧
      amount * volume * strength + 250000 < 500000 * (stepsOf amount volume strength + 1) :=
  ⟨Nat.mul_div_le _ _, Nat.lt_mul_div_succ _ (by decide)⟩

/-- Settles O26: by induction on the formula, whose lines taken so far the merged list describes. -/
theorem formulaMergedAndScaled : Obligations.FormulaMergedAndScaled := by
  refine ⟨fun amount volume strength => ⟨rfl, stepsOf_nearest amount volume strength⟩, fun lines => ?_⟩
  have hms := mergedOf_mergeLines lines
  exact ⟨mergeLines_nodup lines [] 1 (by simp), hms.ordered, hms.covers,
    fun m hm => ⟨hms.amounts m hm, hms.opened m hm⟩,
    fun hlen hamounts => ⟨(length_mergeLines_le lines).trans hlen, fun m hm => mergeLines_amount_bounds hlen hamounts hm⟩⟩

/-! ## The figures of a round (R34 to R36) -/

theorem toleranceOf_eq (e p : Nat) : toleranceOf e p = if e * p < 2100 then 20 else e * p / 100 := by
  unfold toleranceOf
  generalize e * p = x
  split <;> omega

theorem verdictOf_iff (measured : Int) (e tol : Nat) :
    (verdictOf measured e tol = .under ↔ measured < (e : Int) - tol) ∧
    (verdictOf measured e tol = .over ↔ (e : Int) + tol < measured) ∧
    (verdictOf measured e tol = .inTol ↔ (e : Int) - tol ≤ measured ∧ measured ≤ (e : Int) + tol) := by
  by_cases hunder : measured < (e : Int) - tol
  · simp only [verdictOf, if_pos hunder, reduceCtorEq, true_iff, false_iff]
    omega
  · by_cases hover : (e : Int) + tol < measured
    · simp only [verdictOf, if_neg hunder, if_pos hover, reduceCtorEq, true_iff, false_iff]
      omega
    · simp only [verdictOf, if_neg hunder, if_neg hover, reduceCtorEq, true_iff, false_iff]
      omega

/-! ## The top-up (R37, R38) -/

/-- The top-up size is a quotient rounded up: it is within a number of steps exactly when their exact mass meets the deficit. -/
theorem topUpSteps_le_iff (deficit : Nat) {d : Nat} (hd : 0 < d) (m : Nat) :
    topUpSteps deficit d ≤ m ↔ deficit * 200 ≤ m * d := by
  have hceil : topUpSteps deficit d = (deficit * 200) ⌈/⌉ d := by
    rw [topUpSteps, Nat.ceilDiv_eq_add_pred_div, Nat.add_sub_assoc hd]
  rw [hceil, ceilDiv_le_iff_le_mul hd, Nat.mul_comm d m]

/-- Some dose of a colourant code has had no top-up. -/
theorem any_untopped_iff (doses : List Dose) (code : Nat) :
    doses.any (fun d => d.code == code && d.topUp == 0) = true ↔ ∃ d ∈ doses, d.code = code ∧ d.topUp = 0 := by
  simp

/-- A top-up is allowed only for a round of one run that ended, with a job at the station. -/
theorem topUpFor_some {s : State} {r : Round} {deficit : Nat} {x : RoundRun × Nat} (h : s.topUpFor r deficit = some x) :
    ∃ run j e, r.runs = [run] ∧ s.stationJob = some j ∧ run.ended = some e := by
  unfold State.topUpFor at h
  split at h
  · next run j hruns hjob =>
    split at h
    · next e hended => exact ⟨run, j, e, hruns, hjob, hended⟩
    · cases h
  · cases h

theorem topUpFor_of_ended {s : State} {r : Round} {x : RoundRun} {j : Job} {e : RunEnd} (hruns : r.runs = [x])
    (hjob : s.stationJob = some j) (hended : x.ended = some e) (deficit : Nat) (run : RoundRun) (n : Nat) :
    s.topUpFor r deficit = some (run, n) ↔ x = run ∧ topUpSteps deficit x.density = n ∧
      e = { pumped := x.asked, cause := .complete } ∧ j.cancelPending = false ∧
      (∃ d ∈ j.doses, d.code = x.code ∧ d.topUp = 0) ∧ topUpSteps deficit x.density ≤ e.pumped / 4 ∧
      topUpSteps deficit x.density ≤ s.free x.canister ∧
      ((s.canister x.canister).state = .ready ∨ (s.canister x.canister).state = .low) := by
  obtain ⟨pumped, cause⟩ := e
  simp only [State.topUpFor, hruns, hjob, hended, any_untopped_iff, inService_iff, RunEnd.mk.injEq]
  constructor
  · intro h
    split at h
    · next hallowed =>
      obtain ⟨hcause, hpumped, hrest⟩ := hallowed
      obtain ⟨rfl, rfl⟩ := Prod.mk.inj (Option.some.inj h)
      exact ⟨rfl, rfl, ⟨hpumped, hcause⟩, hrest⟩
    · cases h
  · rintro ⟨rfl, rfl, ⟨hpumped, hcause⟩, hrest⟩
    rw [if_pos ⟨hcause, hpumped, hrest⟩]

theorem topUpFor_eq_some_iff (s : State) (r : Round) (deficit : Nat) (run : RoundRun) (n : Nat) :
    s.topUpFor r deficit = some (run, n) ↔
      r.runs = [run] ∧ run.ended = some { pumped := run.asked, cause := .complete } ∧ n = topUpSteps deficit run.density ∧
      n ≤ run.asked / 4 ∧ n ≤ s.free run.canister ∧
      ((s.canister run.canister).state = .ready ∨ (s.canister run.canister).state = .low) ∧
      ∃ j, s.stationJob = some j ∧ j.cancelPending = false ∧ ∃ d ∈ j.doses, d.code = run.code ∧ d.topUp = 0 := by
  constructor
  · intro h
    obtain ⟨x, j, e, hruns, hjob, hended⟩ := topUpFor_some h
    obtain ⟨rfl, rfl, rfl, hcancel, hdose, hquarter, hfree, hserving⟩ := (topUpFor_of_ended hruns hjob hended deficit run n).1 h
    exact ⟨hruns, hended, rfl, hquarter, hfree, hserving, j, hjob, hcancel, hdose⟩
  · rintro ⟨hruns, hended, rfl, hquarter, hfree, hserving, j, hjob, hcancel, hdose⟩
    exact (topUpFor_of_ended hruns hjob hended deficit run _).2 ⟨rfl, rfl, rfl, hcancel, hdose, hquarter, hfree, hserving⟩

/-- Settles O46: each figure by its own rule, the top-up size as a quotient rounded up. -/
theorem roundFigures : Obligations.RoundFigures :=
  ⟨fun _ _ => rfl, fun _ => rfl, fun _ _ => rfl, toleranceOf_eq, verdictOf_iff,
    fun deficit _ hd => ⟨(topUpSteps_le_iff deficit hd _).1 le_rfl, fun m => (topUpSteps_le_iff deficit hd m).2⟩,
    topUpFor_eq_some_iff⟩

end Sys2Proof.DoseCalculation
end

section
/-! PROOFS. The station's selection: the ranks of R113, each the job of the lowest number among those it may offer (R112, R117), and the
flags of a canister that they read (R43). -/

namespace Sys2Proof.ColourantBank

open Sys2Proof Sys2Proof.Machine
open Sys2Proof.DoseCalculation (inService_iff isFaulted_eq_false_iff)

/-! ## The job of the lowest number -/

theorem lowestBy_eq_none_iff (number : Job → Nat) (l : List Job) : lowestBy number l = none ↔ l = [] := by
  cases l with
  | nil => simp [lowestBy]
  | cons j rest =>
    cases h : lowestBy number rest with
    | none => simp [lowestBy, h]
    | some k => by_cases hlt : number k < number j <;> simp [lowestBy, h, hlt]

theorem lowestBy_some {number : Job → Nat} {l : List Job} {j : Job} (h : lowestBy number l = some j) :
    j ∈ l ∧ ∀ k ∈ l, number j ≤ number k := by
  induction l generalizing j with
  | nil => simp [lowestBy] at h
  | cons i rest ih =>
    cases hrest : lowestBy number rest with
    | none =>
      simp only [lowestBy, hrest, Option.some.injEq] at h
      subst h
      simp [(lowestBy_eq_none_iff number rest).1 hrest]
    | some k =>
      obtain ⟨hk, hlow⟩ := ih hrest
      simp only [lowestBy, hrest] at h
      split at h
      · obtain rfl := Option.some.inj h
        exact ⟨List.mem_cons_of_mem _ hk, fun x hx => (List.mem_cons.1 hx).elim (fun e => by subst e; omega) (hlow x)⟩
      · obtain rfl := Option.some.inj h
        exact ⟨List.mem_cons_self, fun x hx => (List.mem_cons.1 hx).elim (fun e => e ▸ le_rfl) (fun hx => by
          have := hlow x hx
          omega)⟩

/-- A rank offers the job of the lowest number among those of the table that it takes. -/
theorem lowestBy_filter_some {number : Job → Nat} {p : Job → Bool} {l : List Job} {j : Job}
    (h : lowestBy number (l.filter p) = some j) : j ∈ l ∧ p j = true ∧ ∀ k ∈ l, p k = true → number j ≤ number k := by
  obtain ⟨hj, hlow⟩ := lowestBy_some h
  obtain ⟨hmem, hp⟩ := List.mem_filter.1 hj
  exact ⟨hmem, hp, fun k hk hpk => hlow k (List.mem_filter.2 ⟨hk, hpk⟩)⟩

theorem lowestBy_filter_none_iff (number : Job → Nat) (p : Job → Bool) (l : List Job) :
    lowestBy number (l.filter p) = none ↔ ∀ j ∈ l, ¬ p j = true := by
  rw [lowestBy_eq_none_iff, List.filter_eq_nil_iff]

/-! ## The ranks (R113) -/

section
variable {s : State} {j : Job} {c : OrderClass}

theorem rank1_some (h : s.rank1 = some j) :
    j ∈ s.orders.jobs ∧ j.toRetrieve = true ∧ ∀ k ∈ s.orders.jobs, k.toRetrieve = true → j.parkNumber ≤ k.parkNumber :=
  lowestBy_filter_some h

theorem rank1_none (h : s.rank1 = none) : ∀ j ∈ s.orders.jobs, j.toRetrieve = false := fun j hj =>
  Bool.eq_false_iff.2 ((lowestBy_filter_none_iff _ _ _).1 h j hj)

theorem rankParked_some (h : s.rankParked c = some j) :
    j ∈ s.orders.jobs ∧ (j.cls = c ∧ s.hasProgress j = true) ∧
      ∀ k ∈ s.orders.jobs, k.cls = c ∧ s.hasProgress k = true → j.parkNumber ≤ k.parkNumber := by
  simpa only [Bool.and_eq_true, beq_iff_eq] using lowestBy_filter_some h

theorem rankParked_none_iff : s.rankParked c = none ↔ ∀ j ∈ s.orders.jobs, ¬ (j.cls = c ∧ s.hasProgress j = true) := by
  simp only [State.rankParked, lowestBy_filter_none_iff, Bool.and_eq_true, beq_iff_eq]

theorem rankQueued_some (h : s.rankQueued c = some j) :
    j ∈ s.orders.jobs ∧ (j.cls = c ∧ s.drawable j = true) ∧
      ∀ k ∈ s.orders.jobs, k.cls = c ∧ s.drawable k = true → j.admission ≤ k.admission := by
  simpa only [Bool.and_eq_true, beq_iff_eq] using lowestBy_filter_some h

theorem rankQueued_none_iff : s.rankQueued c = none ↔ ∀ j ∈ s.orders.jobs, ¬ (j.cls = c ∧ s.drawable j = true) := by
  simp only [State.rankQueued, lowestBy_filter_none_iff, Bool.and_eq_true, beq_iff_eq]

end

/-- Which rank a selection comes from: each rank is asked only where those before it offer no job. -/
theorem selection_cases (s : State) :
    (∃ j, s.selection = some (.unpark j) ∧ s.rank1 = some j) ∨
    (s.rank1 = none ∧ ∃ j, s.selection = some (.unpark j) ∧ s.rankParked .rush = some j) ∨
    (s.rank1 = none ∧ s.rankParked .rush = none ∧ ∃ j, s.selection = some (.draw j) ∧ s.rankQueued .rush = some j) ∨
    (s.rank1 = none ∧ s.rankParked .rush = none ∧ s.rankQueued .rush = none ∧
      ∃ j, s.selection = some (.unpark j) ∧ s.rankParked .normal = some j) ∨
    (s.rank1 = none ∧ s.rankParked .rush = none ∧ s.rankQueued .rush = none ∧ s.rankParked .normal = none ∧
      s.selection = (s.rankQueued .normal).map .draw) := by
  unfold State.selection
  cases s.rank1 with
  | some j => exact .inl ⟨j, rfl, rfl⟩
  | none =>
    cases s.rankParked .rush with
    | some j => exact .inr (.inl ⟨rfl, j, rfl, rfl⟩)
    | none =>
      cases s.rankQueued .rush with
      | some j => exact .inr (.inr (.inl ⟨rfl, rfl, j, rfl, rfl⟩))
      | none =>
        cases s.rankParked .normal with
        | some j => exact .inr (.inr (.inr (.inl ⟨rfl, rfl, rfl, j, rfl, rfl⟩)))
        | none => exact .inr (.inr (.inr (.inr ⟨rfl, rfl, rfl, rfl, rfl⟩)))

theorem selection_unpark {s : State} {j : Job} (h : s.selection = some (.unpark j)) :
    s.rank1 = some j ∨ (s.rank1 = none ∧ s.rankParked .rush = some j) ∨
      (s.rank1 = none ∧ s.rankParked .rush = none ∧ s.rankQueued .rush = none ∧ s.rankParked .normal = some j) := by
  rcases selection_cases s with ⟨k, hk, h1⟩ | ⟨h1, k, hk, h2⟩ | ⟨-, -, k, hk, -⟩ | ⟨h1, h2, h3, k, hk, h4⟩ | ⟨-, -, -, -, h5⟩
  · obtain rfl : k = j := by simpa [hk] using h
    exact .inl h1
  · obtain rfl : k = j := by simpa [hk] using h
    exact .inr (.inl ⟨h1, h2⟩)
  · simp [hk] at h
  · obtain rfl : k = j := by simpa [hk] using h
    exact .inr (.inr ⟨h1, h2, h3, h4⟩)
  · rw [h5] at h
    cases hq : s.rankQueued .normal <;> simp [hq] at h

theorem selection_draw {s : State} {j : Job} (h : s.selection = some (.draw j)) :
    (s.rank1 = none ∧ s.rankParked .rush = none ∧ s.rankQueued .rush = some j) ∨
      (s.rank1 = none ∧ s.rankParked .rush = none ∧ s.rankQueued .rush = none ∧ s.rankParked .normal = none ∧
        s.rankQueued .normal = some j) := by
  rcases selection_cases s with ⟨k, hk, -⟩ | ⟨-, k, hk, -⟩ | ⟨h1, h2, k, hk, h3⟩ | ⟨-, -, -, k, hk, -⟩ | ⟨h1, h2, h3, h4, h5⟩
  · simp [hk] at h
  · simp [hk] at h
  · obtain rfl : k = j := by simpa [hk] using h
    exact .inl ⟨h1, h2, h3⟩
  · simp [hk] at h
  · rw [h5] at h
    cases hq : s.rankQueued .normal with
    | none => simp [hq] at h
    | some k =>
      obtain rfl : k = j := by simpa [hq] using h
      exact .inr ⟨h1, h2, h3, h4, rfl⟩

theorem selection_none {s : State} (h : s.selection = none) :
    s.rank1 = none ∧ s.rankParked .rush = none ∧ s.rankQueued .rush = none ∧ s.rankParked .normal = none ∧
      s.rankQueued .normal = none := by
  rcases selection_cases s with ⟨k, hk, -⟩ | ⟨-, k, hk, -⟩ | ⟨-, -, k, hk, -⟩ | ⟨-, -, -, k, hk, -⟩ | ⟨h1, h2, h3, h4, h5⟩
  iterate 4 simp [hk] at h
  rw [h5] at h
  exact ⟨h1, h2, h3, h4, Option.map_eq_none_iff.1 h⟩

/-! ## The flags that the ranks read (R43, R112) -/

theorem isParked_iff (j : Job) : j.isParked = true ↔ ∃ r n, j.state = .parked r n := by
  unfold Job.isParked
  cases j.state <;> simp

theorem isQueued_iff (j : Job) : j.isQueued = true ↔ j.state = .queued := by simp [Job.isQueued]

theorem drive_manifoldOf (s : State) (c : CanisterId) :
    s.drive (manifoldOf c) = if c.val < 8 then s.drive .a else s.drive .b := by
  unfold manifoldOf
  split <;> rfl

theorem available_iff (s : State) (c : CanisterId) :
    s.available c = true ↔ ((s.canister c).state = .ready ∨ (s.canister c).state = .low) ∧
      ∀ f, (if c.val < 8 then s.drive .a else s.drive .b).state ≠ .faulted f := by
  rw [State.available, drive_manifoldOf, Bool.and_eq_true, inService_iff, Bool.not_eq_true', isFaulted_eq_false_iff]

theorem doseAvailable_iff (s : State) (d : Dose) :
    s.doseAvailable d = true ↔ d.delivered < d.steps ∧ s.available d.canister = true := by
  simp [State.doseAvailable, Dose.outstanding]

theorem run?_eq_some_iff (x : Drive) (r : DoseRun) : x.run? = some r ↔ x.state = .dosing r := by
  unfold Drive.run?
  cases x.state <;> simp

theorem run?_eq_none_iff (x : Drive) : x.run? = none ↔ ∀ r, x.state ≠ .dosing r := by
  unfold Drive.run?
  cases x.state <;> simp

theorem runOn_eq_some_iff (s : State) (c : CanisterId) (r : DoseRun) :
    s.runOn c = some r ↔ (s.drive (manifoldOf c)).state = .dosing r ∧ r.canister = c := by
  rw [← run?_eq_some_iff, State.runOn]
  cases (s.drive (manifoldOf c)).run? with
  | none => simp
  | some q =>
    by_cases hc : q.canister = c
    · simp only [hc, if_true, Option.some.injEq]
      exact ⟨fun e => ⟨e, e ▸ hc⟩, fun e => e.1⟩
    · simp only [hc, if_false, Option.some.injEq]
      exact ⟨fun e => (by cases e), fun e => absurd (e.1 ▸ e.2) hc⟩

theorem topUpAsked_of_run {s : State} {c : CanisterId} {r : DoseRun} (h : (s.drive (manifoldOf c)).state = .dosing r)
    (hc : r.canister = c) : s.topUpAsked c = if r.topUp then r.asked else 0 := by
  simp only [State.topUpAsked, (runOn_eq_some_iff s c r).2 ⟨h, hc⟩]

/-- Steps are asked by a top-up run of a canister only while such a run is on it (R43). -/
theorem topUpAsked_eq_zero {s : State} {c : CanisterId}
    (h : ∀ r, (s.drive (manifoldOf c)).state = .dosing r → r.canister = c → r.topUp = false) : s.topUpAsked c = 0 := by
  unfold State.topUpAsked
  cases hr : s.runOn c with
  | none => rfl
  | some r =>
    obtain ⟨hd, hc⟩ := (runOn_eq_some_iff s c r).1 hr
    simp [h r hd hc]

theorem rushCandidate_iff (s : State) :
    s.rushCandidate = true ↔ ∃ j ∈ s.orders.jobs,
      (j.cls = .rush ∧ s.hasProgress j = true) ∨ (j.cls = .rush ∧ s.drawable j = true) := by
  have hparked : (s.rankParked .rush).isSome = true ↔ ∃ j ∈ s.orders.jobs, j.cls = .rush ∧ s.hasProgress j = true := by
    rw [Option.isSome_iff_ne_none, Ne, rankParked_none_iff]
    push Not
    rfl
  have hqueued : (s.rankQueued .rush).isSome = true ↔ ∃ j ∈ s.orders.jobs, j.cls = .rush ∧ s.drawable j = true := by
    rw [Option.isSome_iff_ne_none, Ne, rankQueued_none_iff]
    push Not
    rfl
  rw [State.rushCandidate, Bool.or_eq_true, hparked, hqueued]
  simp only [and_or_left, exists_or]

/-- Free steps by the run on the canister (R43). -/
theorem free_eq (s : State) (c : CanisterId) :
    s.free c = if (s.canister c).state = .ready ∨ (s.canister c).state = .low then
      (s.canister c).usable - (s.canister c).reserved - s.topUpAsked c else 0 := by
  simp only [State.free, inService_iff]

/-- Settles O40: the ranks in their order, each by the lowest number, and each flag by what it reads. -/
theorem selectionFollowsRanks : Obligations.SelectionFollowsRanks := by
  intro s
  refine ⟨fun j h => ?_, fun j h => ?_, fun h => ?_, fun j => ⟨?_, ?_, ?_, ?_⟩, rushCandidate_iff s, fun c => ⟨?_, ?_, ?_, ?_, ?_, ?_⟩⟩
  · rcases selection_unpark h with h1 | ⟨h1, h2⟩ | ⟨h1, h2, h3, h4⟩
    · obtain ⟨hj, hp, hlow⟩ := rank1_some h1
      exact ⟨hj, .inl ⟨hp, hlow⟩⟩
    · obtain ⟨hj, hp, hlow⟩ := rankParked_some h2
      exact ⟨hj, .inr (.inl ⟨rank1_none h1, hp, hlow⟩)⟩
    · obtain ⟨hj, hp, hlow⟩ := rankParked_some h4
      exact ⟨hj, .inr (.inr ⟨rank1_none h1, rankParked_none_iff.1 h2, rankQueued_none_iff.1 h3, hp, hlow⟩)⟩
  · rcases selection_draw h with ⟨h1, h2, h3⟩ | ⟨h1, h2, h3, h4, h5⟩
    · obtain ⟨hj, hp, hlow⟩ := rankQueued_some h3
      exact ⟨hj, .inl ⟨rank1_none h1, rankParked_none_iff.1 h2, hp, hlow⟩⟩
    · obtain ⟨hj, hp, hlow⟩ := rankQueued_some h5
      exact ⟨hj, .inr ⟨rank1_none h1, rankParked_none_iff.1 h2, rankQueued_none_iff.1 h3, rankParked_none_iff.1 h4, hp, hlow⟩⟩
  · obtain ⟨h1, h2, h3, h4, h5⟩ := selection_none h
    exact ⟨rank1_none h1, rankParked_none_iff.1 h2, rankQueued_none_iff.1 h3, rankParked_none_iff.1 h4, rankQueued_none_iff.1 h5⟩
  · rw [Job.toRetrieve, Bool.and_eq_true, isParked_iff]
  · intro r n hn
    simp only [Job.parkNumber, hn]
  · simp only [State.hasProgress, Bool.and_eq_true, isParked_iff, Bool.not_eq_true', List.any_eq_true, doseAvailable_iff,
      available_iff, and_assoc]
  · simp only [State.drawable, State.ready, Bool.and_eq_true, isQueued_iff, List.all_eq_true, available_iff, decide_eq_true_eq,
      and_assoc]
  · exact available_iff s c
  · rw [State.dispensable, drive_manifoldOf, Bool.and_eq_true, available_iff, Bool.not_eq_true']
  · rw [State.running, Option.isSome_iff_exists]
    simp only [runOn_eq_some_iff, drive_manifoldOf]
  · intro hout
    rw [free_eq, if_neg hout]
  · intro r hserving hr hc htop
    rw [free_eq, if_pos hserving, topUpAsked_of_run (by rw [drive_manifoldOf]; exact hr) hc, if_pos htop]
  · intro hserving hnone
    rw [free_eq, if_pos hserving, topUpAsked_eq_zero (by rw [drive_manifoldOf]; exact hnone), Nat.sub_zero]

end Sys2Proof.ColourantBank
end

section
/-! PROOFS. What every command keeps of the bank's account: what may befall a canister's record (R42, R44), and the agreement of the bank,
the drives and the station on what is being dosed (R43, R47, R48), carried through each operation that touches one of them. -/

namespace Sys2Proof.ColourantBank

open Sys2Proof Sys2Proof.Machine

/-! ## Records read alike -/

theorem dosing_congr {x y : Drive} (h : x.run? = y.run?) (r : DoseRun) : x.state = .dosing r ↔ y.state = .dosing r := by
  rw [← run?_eq_some_iff, ← run?_eq_some_iff, h]

theorem topUpAsked_congr {s t : State} (h : ∀ m, (t.drive m).run? = (s.drive m).run?) (c : CanisterId) :
    t.topUpAsked c = s.topUpAsked c := by
  simp only [State.topUpAsked, State.runOn, h]

theorem canister_congr {s t : State} (h : t.bank = s.bank) (c : CanisterId) : t.canister c = s.canister c := by
  simp only [State.canister, h]

/-- A run in progress belongs to a DOSING station (R94). -/
theorem no_run {s : State} (h : s.DosingOk) (hst : s.station.state ≠ .dosing) (m : Manifold) (r : DoseRun) :
    (s.drive m).state ≠ .dosing r := fun hr => hst (h.runs m r hr).2.2.1

/-! ## What may befall a canister -/

/-- A canister's new record where nothing has defined or refilled it. -/
structure Drawn (k l : Canister) : Prop where
  code : l.code = k.code
  density : l.density = k.density
  lowMark : l.lowMark = k.lowMark
  usable : l.usable ≤ k.usable
  miss : k.missCount ≤ 3 → l.missCount ≤ 3

theorem Drawn.refl (k : Canister) : Drawn k k := ⟨rfl, rfl, rfl, le_rfl, id⟩

theorem Drawn.trans {k l m : Canister} (a : Drawn k l) (b : Drawn l m) : Drawn k m :=
  ⟨b.code.trans a.code, b.density.trans a.density, b.lowMark.trans a.lowMark, b.usable.trans a.usable, fun h => b.miss (a.miss h)⟩

theorem Drawn.of_eased {k l : Canister} (h : Canister.Eased k l) : Drawn k l :=
  ⟨h.code, h.density, h.lowMark, h.usable, h.miss⟩

theorem Drawn.inRange {k l : Canister} (h : Drawn k l) (hk : k.inRange) : l.inRange := by
  obtain ⟨hcode, hlo, hhi, husable, hmark, hmiss⟩ := hk
  exact ⟨by rw [h.code]; exact hcode, by rw [h.density]; exact hlo, by rw [h.density]; exact hhi, h.usable.trans husable,
    by rw [h.lowMark]; exact hmark, h.miss hmiss⟩

/-- No canister has been defined or refilled between two states. -/
def BankDrawn (s t : State) : Prop := ∀ c, Drawn (s.canister c) (t.canister c)

theorem BankDrawn.refl (s : State) : BankDrawn s s := fun c => Drawn.refl (s.canister c)

theorem BankDrawn.trans {s t u : State} (a : BankDrawn s t) (b : BankDrawn t u) : BankDrawn s u := fun c => (a c).trans (b c)

theorem BankDrawn.of_bank {s t : State} (h : t.bank = s.bank) : BankDrawn s t := fun c => by
  rw [canister_congr h]
  exact Drawn.refl _

theorem BankDrawn.of_keeps {s t : State} (h : Keeps s t) : BankDrawn s t := fun c =>
  ⟨h.code c, h.density c, h.lowMark c, h.usable c, h.miss c⟩

theorem BankDrawn.setCanister {s : State} {c : CanisterId} {k : Canister} (h : Drawn (s.canister c) k) :
    BankDrawn s (s.setCanister c k) := fun e => by
  rw [State.setCanister_canister]
  split
  · subst_vars; exact h
  · exact Drawn.refl _

theorem BankDrawn.bankOk {s t : State} (h : BankDrawn s t) (hs : s.bankOk) : t.bankOk := fun c => (h c).inRange (hs c)

/-! ## The agreement, and what carries it over -/

/-- What the agreement of the records rests on: the ranges of R42, one record of a tag (R4), and the agreement on what is dosed. -/
structure Sound (s : State) : Prop where
  bank : s.bankOk
  tags : (s.orders.jobs.map (·.tag)).Nodup
  dosing : s.DosingOk

/-- A change that defines and refills no canister and carries the agreement over, with the bank's account where that agreed. -/
structure Accounts (s t : State) : Prop where
  bank : BankDrawn s t
  tags : (s.orders.jobs.map (·.tag)).Nodup → (t.orders.jobs.map (·.tag)).Nodup
  dosing : Sound s → t.DosingOk
  reserved : Sound s → s.ReservedOk → t.ReservedOk

theorem Accounts.sound {s t : State} (h : Accounts s t) (hs : Sound s) : Sound t :=
  ⟨h.bank.bankOk hs.bank, h.tags hs.tags, h.dosing hs⟩

theorem Accounts.refl (s : State) : Accounts s s := ⟨BankDrawn.refl s, id, Sound.dosing, fun _ h => h⟩

theorem Accounts.trans {s t u : State} (a : Accounts s t) (b : Accounts t u) : Accounts s u :=
  ⟨a.bank.trans b.bank, fun h => b.tags (a.tags h), fun h => b.dosing (a.sound h),
    fun h hr => b.reserved (a.sound h) (a.reserved h hr)⟩

/-- Where an operation's own law rests on the agreement before it. -/
theorem Accounts.of_keeps {s t : State} (k : Keeps s t) (hd : Sound s → t.DosingOk)
    (hr : Sound s → s.ReservedOk → t.ReservedOk) : Accounts s t :=
  ⟨BankDrawn.of_keeps k, fun h => by rw [k.tags]; exact h, hd, hr⟩

theorem Accounts.of_sound {s t : State} (k : Keeps s t) (h : Sound s → Accounts s t) : Accounts s t :=
  Accounts.of_keeps k (fun hs => (h hs).dosing hs) (fun hs => (h hs).reserved hs)

/-! ## Records that stand -/

/-- The two agreements read only the bank, the jobs, the runs in progress and the station's state, job, round and first-round figures. -/
structure SameDosing (s t : State) : Prop where
  bank : t.bank = s.bank
  jobs : t.orders.jobs = s.orders.jobs
  run : ∀ m, (t.drive m).run? = (s.drive m).run?
  state : t.station.state = s.station.state
  job : t.station.job = s.station.job
  round : t.station.round = s.station.round
  first : t.station.firstRound = s.station.firstRound

theorem SameDosing.of_eq {s t : State} (hb : t.bank = s.bank) (hj : t.orders.jobs = s.orders.jobs) (hd : t.drives = s.drives)
    (hs : t.station = s.station) : SameDosing s t :=
  ⟨hb, hj, fun m => by cases m <;> simp [State.drive, hd], by rw [hs], by rw [hs], by rw [hs], by rw [hs]⟩

theorem SameDosing.dosingOk {s t : State} (e : SameDosing s t) (h : s.DosingOk) : t.DosingOk where
  covered c := by
    rw [canister_congr e.bank, topUpAsked_congr e.run]
    exact h.covered c
  runs m r hr := by
    rw [dosing_congr (e.run m)] at hr
    rw [canister_congr e.bank, e.state, e.round]
    exact h.runs m r hr
  densities := by rw [e.round]; exact h.densities
  topUp := by rw [e.first, e.state, e.jobs, e.job]; exact h.topUp
  job := by rw [e.job, e.state, e.jobs]; exact h.job

theorem SameDosing.hasDose_iff {s t : State} (e : SameDosing s t) (code : Nat) (c : CanisterId) (n : Nat) :
    t.hasDose code c n ↔ s.hasDose code c n := by
  simp only [State.hasDose, e.jobs, e.job]

theorem SameDosing.reservedOk {s t : State} (e : SameDosing s t) (h : s.ReservedOk) : t.ReservedOk where
  reserved c := by
    rw [canister_congr e.bank, State.outstandingOn, e.jobs]
    exact h.reserved c
  codes := by rw [e.jobs]; exact h.codes
  runs m r hr := by
    rw [dosing_congr (e.run m)] at hr
    rw [e.job, e.hasDose_iff]
    exact h.runs m r hr
  round := by
    simp only [e.round, e.state, e.hasDose_iff, fun m r => dosing_congr (e.run m) r]
    exact h.round
  due := by
    simp only [e.first, e.state, e.hasDose_iff]
    exact h.due

theorem SameDosing.accounts {s t : State} (e : SameDosing s t) : Accounts s t :=
  ⟨BankDrawn.of_bank e.bank, fun h => by rw [e.jobs]; exact h, fun h => e.dosingOk h.dosing, fun _ h => e.reservedOk h⟩

/-- What changes none of the four records changes nothing of the agreement. -/
theorem accounts_of_eq {s t : State} (hb : t.bank = s.bank) (hj : t.orders.jobs = s.orders.jobs) (hd : t.drives = s.drives)
    (hs : t.station = s.station) : Accounts s t := (SameDosing.of_eq hb hj hd hs).accounts

/-- A drive that begins or ends no run. -/
theorem accounts_setDrive {s : State} {m : Manifold} {d : Drive} (h : d.run? = (s.drive m).run?) : Accounts s (s.setDrive m d) :=
  SameDosing.accounts
    ⟨by simp, by simp, fun n => by rw [State.setDrive_drive]; split; · subst_vars; exact h
                                   · rfl, by simp, by simp, by simp, by simp⟩

/-! ## The station at rest -/

/-- A station that neither begins nor ends a round: no run is in progress before or after (R94), and no top-up is due. -/
structure Rests (s t : State) : Prop where
  bank : t.bank = s.bank
  jobs : t.orders.jobs = s.orders.jobs
  run : ∀ m, (t.drive m).run? = (s.drive m).run?
  before : s.station.state ≠ .dosing
  after : t.station.state ≠ .dosing
  first : t.station.firstRound = none
  round : t.station.round = none ∨ (t.station.round = s.station.round ∧ t.station.state ≠ .weighing .round)
  job : ∀ tag, t.station.job = some tag → t.station.state ≠ .discharging → t.station.state ≠ .held →
    ∃ j ∈ s.orders.jobs, j.tag = tag ∧ j.state = .dosing

theorem Rests.no_run {s t : State} (e : Rests s t) (h : s.DosingOk) (m : Manifold) (r : DoseRun) : (t.drive m).state ≠ .dosing r := by
  rw [Ne, dosing_congr (e.run m)]
  exact ColourantBank.no_run h e.before m r

theorem Rests.dosingOk {s t : State} (e : Rests s t) (h : s.DosingOk) : t.DosingOk where
  covered c := by
    rw [canister_congr e.bank, topUpAsked_congr e.run]
    exact h.covered c
  runs m r hr := absurd hr (e.no_run h m r)
  densities q hq := by
    rcases e.round with hnone | ⟨hsame, -⟩
    · rw [hnone] at hq; cases hq
    · exact h.densities q (hsame ▸ hq)
  topUp f hf := by rw [e.first] at hf; cases hf
  job := by rw [e.jobs]; exact e.job

theorem Rests.reservedOk {s t : State} (e : Rests s t) (hd : s.DosingOk) (h : s.ReservedOk) : t.ReservedOk where
  reserved c := by
    rw [canister_congr e.bank, State.outstandingOn, e.jobs]
    exact h.reserved c
  codes := by rw [e.jobs]; exact h.codes
  runs m r hr := absurd hr (e.no_run hd m r)
  round q hq _ hstate := by
    rcases e.round with hnone | ⟨-, hstate'⟩
    · rw [hnone] at hq; cases hq
    · exact absurd hstate (by simp [e.after, hstate'])
  due f hf := by rw [e.first] at hf; cases hf

theorem Rests.accounts {s t : State} (e : Rests s t) : Accounts s t :=
  ⟨BankDrawn.of_bank e.bank, fun h => by rw [e.jobs]; exact h, fun h => e.dosingOk h.dosing, fun h => e.reservedOk h.dosing⟩

/-! ## A canister's record written -/

theorem dosingOk_setCanister {s : State} {c : CanisterId} {k : Canister} (h : s.DosingOk)
    (hcovered : k.state = .ready ∨ k.state = .low → k.reserved + s.topUpAsked c ≤ k.usable)
    (hrun : ∀ r, (s.drive (manifoldOf c)).state = .dosing r → r.canister = c → r.topUp = true → k.state = .ready ∨ k.state = .low) :
    (s.setCanister c k).DosingOk where
  covered e := by
    have hasked : (s.setCanister c k).topUpAsked e = s.topUpAsked e := topUpAsked_congr (fun _ => rfl) e
    rw [hasked, State.setCanister_canister]
    split
    · subst_vars; exact hcovered
    · exact h.covered e
  runs m r hr := by
    obtain ⟨hm, hpumped, hstate, hserving, hround⟩ := h.runs m r hr
    refine ⟨hm, hpumped, hstate, fun ht => ?_, hround⟩
    rw [State.setCanister_canister]
    split
    · exact hrun r (by subst_vars; exact hr) ‹_› ht
    · exact hserving ht
  densities := h.densities
  topUp := h.topUp
  job := h.job

theorem reservedOk_setCanister {s : State} {c : CanisterId} {k : Canister} (h : s.ReservedOk)
    (hk : k.reserved = (s.canister c).reserved) : (s.setCanister c k).ReservedOk where
  reserved e := by
    rw [State.setCanister_canister]
    split
    · subst_vars; rw [hk]; exact h.reserved _
    · exact h.reserved e
  codes := h.codes
  runs := h.runs
  round := h.round
  due := h.due

/-- A record whose state, usable and reserved steps stand. -/
theorem accounts_setCanister_same {s : State} {c : CanisterId} {k : Canister} (hk : Drawn (s.canister c) k)
    (hstate : k.state = (s.canister c).state) (husable : k.usable = (s.canister c).usable)
    (hreserved : k.reserved = (s.canister c).reserved) : Accounts s (s.setCanister c k) :=
  ⟨BankDrawn.setCanister hk, id,
    fun h => dosingOk_setCanister h.dosing (by rw [hstate, husable, hreserved]; exact h.dosing.covered c)
      (fun r hr hc ht => by rw [hstate, ← hc]; exact (h.dosing.runs _ r hr).2.2.2.1 ht),
    fun _ h => reservedOk_setCanister h hreserved⟩

/-- A record written where no top-up run is on the canister: in READY or LOW its reserved steps must be covered (R43, R48). -/
theorem dosingOk_setCanister_idle {s : State} {c : CanisterId} {k : Canister} (h : s.DosingOk)
    (hrun : ∀ r, (s.drive (manifoldOf c)).state = .dosing r → r.canister = c → r.topUp = false)
    (hcovered : k.state = .ready ∨ k.state = .low → k.reserved ≤ k.usable) : (s.setCanister c k).DosingOk :=
  dosingOk_setCanister h (by rw [topUpAsked_eq_zero hrun]; exact hcovered)
    (fun r hr hc ht => by rw [hrun r hr hc] at ht; cases ht)

theorem accounts_setCanister_idle {s : State} {c : CanisterId} {k : Canister} (hk : Drawn (s.canister c) k)
    (hrun : Sound s → ∀ r, (s.drive (manifoldOf c)).state = .dosing r → r.canister = c → r.topUp = false)
    (hcovered : k.state = .ready ∨ k.state = .low → k.reserved ≤ k.usable)
    (hreserved : k.reserved = (s.canister c).reserved) : Accounts s (s.setCanister c k) :=
  ⟨BankDrawn.setCanister hk, id, fun h => dosingOk_setCanister_idle h.dosing (hrun h) hcovered,
    fun _ h => reservedOk_setCanister h hreserved⟩

/-- Out of READY and LOW a canister has no top-up run on it. -/
theorem no_topUp_out {s : State} {c : CanisterId} (hout : ¬ ((s.canister c).state = .ready ∨ (s.canister c).state = .low))
    (h : s.DosingOk) (r : DoseRun) (hr : (s.drive (manifoldOf c)).state = .dosing r) (hc : r.canister = c) : r.topUp = false := by
  obtain ⟨-, -, -, hserving, -⟩ := h.runs _ r hr
  rw [hc] at hserving
  exact Bool.eq_false_iff.2 (fun ht => hout (hserving ht))

end Sys2Proof.ColourantBank
end

section
/-! PROOFS. What a notice that changes one job keeps of the bank's account, while the station is not working on that job or the change leaves its
doses' steps alone (R5, R47). -/
namespace Sys2Proof.ColourantBank

open Sys2Proof Sys2Proof.Machine

/-! ## A job's record changed -/

/-- Two jobs with the same doses but for top-up steps and verdicts. -/
def SameDoses (j k : Job) : Prop :=
  ∃ g : Dose → Dose, (∀ d, (g d).code = d.code ∧ (g d).canister = d.canister ∧ (g d).outstanding = d.outstanding) ∧
    k.doses = j.doses.map g

theorem SameDoses.of_eq {j k : Job} (h : k.doses = j.doses) : SameDoses j k := ⟨id, fun _ => ⟨rfl, rfl, rfl⟩, by simp [h]⟩

theorem SameDoses.trans {j k l : Job} (a : SameDoses j k) (b : SameDoses k l) : SameDoses j l := by
  obtain ⟨g, hg, hk⟩ := a
  obtain ⟨h, hh, hl⟩ := b
  refine ⟨h ∘ g, fun d => ?_, by rw [hl, hk, List.map_map]⟩
  obtain ⟨hcode, hcanister, hout⟩ := hh (g d)
  obtain ⟨hcode', hcanister', hout'⟩ := hg d
  exact ⟨hcode.trans hcode', hcanister.trans hcanister', hout.trans hout'⟩

/-- A write to the doses of one colourant code that leaves their steps. -/
theorem sameDoses_mapDose (j : Job) (code : Nat) (g : Dose → Dose)
    (hg : ∀ d, (g d).code = d.code ∧ (g d).canister = d.canister ∧ (g d).outstanding = d.outstanding) :
    SameDoses j (j.mapDose code g) := by
  refine ⟨fun d => if d.code = code then g d else d, fun d => ?_, rfl⟩
  by_cases hd : d.code = code
  · simp only [hd, if_true]
    rw [← hd]
    exact hg d
  · simp [hd]

theorem SameDoses.codes {j k : Job} (h : SameDoses j k) : k.doses.map (·.code) = j.doses.map (·.code) := by
  obtain ⟨g, hg, hk⟩ := h
  rw [hk, List.map_map]
  exact List.map_congr_left (fun d _ => (hg d).1)

theorem SameDoses.outstandingOn {j k : Job} (h : SameDoses j k) (hr : k.state.reserves = j.state.reserves) (c : CanisterId) :
    k.outstandingOn c = j.outstandingOn c := by
  obtain ⟨g, hg, hk⟩ := h
  have hcanister : ((fun d : Dose => decide (d.canister = c)) ∘ g) = fun d => decide (d.canister = c) :=
    funext (fun d => by simp [(hg d).2.1])
  have hout : ((fun d : Dose => d.outstanding) ∘ g) = fun d => d.outstanding := funext (fun d => (hg d).2.2)
  simp only [Job.outstandingOn, hr, hk, List.filter_map, List.map_map, hcanister, hout]

/-- The station works on a job: its tin is at the station and not on its way to the mix lane. -/
def Attends (s : State) (t : Tag) : Prop :=
  s.station.job = some t ∧ s.station.state ≠ .discharging ∧ s.station.state ≠ .held

/-- A change of the unfinished job of a tag that leaves what the station counts on: its doses' steps, and its being DOSING while the
station works on it. -/
structure LiveChange (s : State) (t : Tag) (f : Job → Job) : Prop where
  tag : ∀ j, (f j).tag = j.tag
  doses : ∀ j, SameDoses j (f j)
  dosing : Attends s t → ∀ j : Job, j.state = .dosing → (f j).state = .dosing
  topUp : s.station.firstRound = none ∨ s.station.state ≠ .waitDrive ∨ ∀ j, (f j).doses = j.doses

theorem mem_updateLive {s : State} {t : Tag} {f : Job → Job} {k : Job} (h : k ∈ (s.updateLive t f).orders.jobs) :
    ∃ j ∈ s.orders.jobs, k = if j.live t then f j else j := by
  obtain ⟨j, hj, rfl⟩ := List.mem_map.1 h
  exact ⟨j, hj, rfl⟩

/-- The job the station works on keeps its tag, its state and its doses. -/
theorem LiveChange.attended {s : State} {t : Tag} {f : Job → Job} (h : LiveChange s t f) {j : Job} (hj : j ∈ s.orders.jobs)
    (hd : j.state = .dosing) (ha : Attends s j.tag) :
    ∃ k ∈ (s.updateLive t f).orders.jobs, k.tag = j.tag ∧ k.state = .dosing ∧ SameDoses j k ∧
      (s.station.firstRound = none ∨ s.station.state ≠ .waitDrive ∨ k.doses = j.doses) := by
  refine ⟨if j.live t then f j else j, List.mem_map_of_mem hj, ?_⟩
  by_cases hl : j.live t = true
  · have ht : j.tag = t := by simp only [Job.live, Bool.and_eq_true, beq_iff_eq] at hl; exact hl.1
    simp only [hl, if_true]
    exact ⟨h.tag j, h.dosing (ht ▸ ha) j hd, h.doses j, h.topUp.imp_right (Or.imp_right (fun e => e j))⟩
  · simp only [hl]
    exact ⟨rfl, hd, SameDoses.of_eq rfl, .inr (.inr rfl)⟩

theorem LiveChange.dosingOk {s : State} {t : Tag} {f : Job → Job} (e : LiveChange s t f) (h : s.DosingOk) :
    (s.updateLive t f).DosingOk where
  covered := h.covered
  runs := h.runs
  densities := h.densities
  topUp q hq := by
    rcases h.topUp q hq with hst | hst | ⟨hst, j, hj, hjob, hd, ⟨d, hdj, hdc⟩, hpos⟩
    · exact .inl hst
    · exact .inr (.inl hst)
    · obtain ⟨k, hk, htag, hkd, -, hdoses⟩ := e.attended hj hd ⟨hjob, by simp [hst], by simp [hst]⟩
      have hsame : k.doses = j.doses := by
        rcases hdoses with hnone | hwait | hsame
        · exact absurd (show s.station.firstRound = some q from hq) (by simp [hnone])
        · exact absurd hst hwait
        · exact hsame
      exact .inr (.inr ⟨hst, k, hk, by rw [htag]; exact hjob, hkd, by rw [hsame]; exact ⟨d, hdj, hdc⟩, by rw [hsame]; exact hpos⟩)
  job tag ht hdis hheld := by
    obtain ⟨j, hj, rfl, hd⟩ := h.job tag ht hdis hheld
    obtain ⟨k, hk, htag, hkd, -, -⟩ := e.attended hj hd ⟨ht, hdis, hheld⟩
    exact ⟨k, hk, htag, hkd⟩

theorem LiveChange.hasDose {s : State} {t : Tag} {f : Job → Job} (e : LiveChange s t f) {code n : Nat} {c : CanisterId}
    (hdis : s.station.state ≠ .discharging) (hheld : s.station.state ≠ .held) (h : s.hasDose code c n) :
    (s.updateLive t f).hasDose code c n := by
  obtain ⟨j, hj, hjob, hd, d, hdj, rfl, rfl, rfl⟩ := h
  obtain ⟨k, hk, htag, hkd, ⟨g, hg, hkdoses⟩, -⟩ := e.attended hj hd ⟨hjob, hdis, hheld⟩
  exact ⟨k, hk, by rw [htag]; exact hjob, hkd, g d, by rw [hkdoses]; exact List.mem_map_of_mem hdj, hg d⟩

/-- The bank's account but for the reserved steps themselves: how the doses, the runs and the round are tied to one another. -/
structure Tied (s : State) : Prop where
  codes : ∀ j ∈ s.orders.jobs, (j.doses.map (·.code)).Nodup
  runs : ∀ m r, (s.drive m).state = .dosing r →
    s.station.job = some r.tag ∧ s.hasDose r.code r.canister (if r.topUp then 0 else r.asked)
  round : ∀ q, s.station.round = some q → q.topUp = false → s.station.state = .dosing ∨ s.station.state = .weighing .round →
    ∀ x ∈ q.runs,
      (x.ended = none → ∃ r, (s.drive (manifoldOf x.canister)).state = .dosing r ∧ r.canister = x.canister ∧ r.code = x.code ∧
        r.asked = x.asked ∧ r.topUp = false) ∧
      (∀ e, x.ended = some e → e.pumped = x.asked → s.hasDose x.code x.canister 0)
  due : ∀ f, s.station.firstRound = some f → s.station.state = .waitDrive → s.hasDose f.code f.canister 0

theorem Tied.of_reservedOk {s : State} (h : s.ReservedOk) : Tied s := ⟨h.codes, h.runs, h.round, h.due⟩

theorem Tied.reservedOk {s : State} (h : Tied s) (hr : ∀ c, (s.canister c).reserved = s.outstandingOn c) : s.ReservedOk :=
  ⟨hr, h.codes, h.runs, h.round, h.due⟩

/-- The ties are between the jobs, the drives and the station. -/
theorem Tied.congr {s t : State} (h : Tied s) (hj : t.orders.jobs = s.orders.jobs) (hd : t.drives = s.drives)
    (hst : t.station = s.station) : Tied t := by
  have hdrive : ∀ m, t.drive m = s.drive m := fun m => by cases m <;> simp [State.drive, hd]
  have hdose : ∀ code c n, t.hasDose code c n ↔ s.hasDose code c n := fun _ _ _ => by simp only [State.hasDose, hj, hst]
  exact
    { codes := by rw [hj]; exact h.codes
      runs := by simp only [hdrive, hst, hdose]; exact h.runs
      round := by simp only [hdrive, hst, hdose]; exact h.round
      due := by simp only [hst, hdose]; exact h.due }

theorem LiveChange.tied {s : State} {t : Tag} {f : Job → Job} (e : LiveChange s t f) (hs : s.DosingOk) (h : Tied s) :
    Tied (s.updateLive t f) where
  codes k hk := by
    obtain ⟨j, hj, rfl⟩ := mem_updateLive hk
    split
    · rw [(e.doses j).codes]; exact h.codes j hj
    · exact h.codes j hj
  runs m r hr := by
    obtain ⟨hjob, hdose⟩ := h.runs m r hr
    have hst := (hs.runs m r hr).2.2.1
    exact ⟨hjob, e.hasDose (by simp [hst]) (by simp [hst]) hdose⟩
  round q hq htop hst x hx := by
    obtain ⟨hrun, hended⟩ := h.round q hq htop hst x hx
    refine ⟨hrun, fun r hr hp => e.hasDose ?_ ?_ (hended r hr hp)⟩
    all_goals rcases hst with hst | hst <;> exact fun h => absurd (hst.symm.trans h) (by simp)
  due q hq hst := e.hasDose (fun h => absurd (hst.symm.trans h) (by simp)) (fun h => absurd (hst.symm.trans h) (by simp)) (h.due q hq hst)

theorem LiveChange.accounts {s : State} {t : Tag} {f : Job → Job} (e : LiveChange s t f)
    (hout : ∀ j ∈ s.orders.jobs, j.live t = true → ∀ c, (f j).outstandingOn c = j.outstandingOn c) :
    Accounts s (s.updateLive t f) :=
  Accounts.of_keeps (keeps_updateLive s t f e.tag) (fun h => e.dosingOk h.dosing) (fun hs h =>
    (e.tied hs.dosing (Tied.of_reservedOk h)).reservedOk (fun c => by
      refine (h.reserved c).trans ?_
      simp only [State.outstandingOn, State.updateLive, List.map_map]
      refine congrArg List.sum (List.map_congr_left (fun j hj => ?_))
      by_cases hl : j.live t = true
      · simp [hl, hout j hj hl c]
      · simp [hl]))

/-- A change that leaves a job's state and the steps of its doses. -/
theorem liveChange_of_sameDoses {s : State} {t : Tag} {f : Job → Job} (htag : ∀ j, (f j).tag = j.tag)
    (hstate : ∀ j, (f j).state = j.state) (hdoses : ∀ j, SameDoses j (f j))
    (htopUp : s.station.firstRound = none ∨ s.station.state ≠ .waitDrive ∨ ∀ j, (f j).doses = j.doses) : LiveChange s t f where
  tag := htag
  doses := hdoses
  dosing _ j hd := (hstate j).trans hd
  topUp := htopUp

theorem accounts_updateLive_of_doses {s : State} {t : Tag} {f : Job → Job} (htag : ∀ j, (f j).tag = j.tag)
    (hstate : ∀ j, (f j).state = j.state) (hdoses : ∀ j, (f j).doses = j.doses) : Accounts s (s.updateLive t f) :=
  (liveChange_of_sameDoses htag hstate (fun j => SameDoses.of_eq (hdoses j)) (.inr (.inr hdoses))).accounts
    (fun j _ _ => (SameDoses.of_eq (hdoses j)).outstandingOn (by rw [hstate]))

/-- A notice that moves a job between states of one account, and not the job the station works on out of DOSING (R5, R47). -/
theorem accounts_moveJob {s : State} {t : Tag} {p : JobState → Bool} {f : Job → Job} (htag : ∀ j, (f j).tag = j.tag)
    (hdoses : ∀ j, (f j).doses = j.doses)
    (hreserves : ∀ j, p j.state = true → (f j).state.reserves = j.state.reserves)
    (hdosing : p .dosing = true → ¬ Attends s t) : Accounts s (s.moveJob t p f) :=
  LiveChange.accounts
    { tag := fun j => by split <;> simp [htag]
      doses := fun j => SameDoses.of_eq (by split <;> simp [hdoses])
      dosing := fun ha j hd => by
        rw [if_neg (by rw [hd]; exact fun hp => hdosing hp ha)]
        exact hd
      topUp := .inr (.inr (fun j => by split <;> simp [hdoses])) }
    (fun j _ _ c => by
      split
      · exact (SameDoses.of_eq (hdoses j)).outstandingOn (hreserves j ‹_›) c
      · rfl)

theorem accounts_jobFed (s : State) (t : Tag) : Accounts s (s.jobFed t) :=
  accounts_moveJob (fun _ => rfl) (fun _ => rfl) (fun j h => by rw [beq_iff_eq.1 h]; rfl) (fun h => absurd h (by decide))

theorem accounts_jobMixed (s : State) (t : Tag) : Accounts s (s.jobMixed t) :=
  accounts_moveJob (fun _ => rfl) (fun _ => rfl) (fun j h => by rw [beq_iff_eq.1 h]; rfl) (fun h => absurd h (by decide))

theorem accounts_jobLoaded (s : State) (t : Tag) (k : MixerId) : Accounts s (s.jobLoaded t k) :=
  accounts_moveJob (fun _ => rfl) (fun _ => rfl) (fun j h => by rw [beq_iff_eq.1 h]; rfl) (fun h => absurd h (by decide))

theorem accounts_jobDrawn (s : State) (t : Tag) : Accounts s (s.jobDrawn t) :=
  accounts_moveJob (fun _ => rfl) (fun _ => rfl) (fun j h => by rw [beq_iff_eq.1 h]; rfl) (fun h => absurd h (by decide))

theorem accounts_jobParked {s : State} {t : Tag} (h : ¬ Attends s t) (r : ParkReason) (n : Nat) : Accounts s (s.jobParked t r n) :=
  accounts_moveJob (fun _ => rfl) (fun _ => rfl) (fun j h => by rw [beq_iff_eq.1 h]; rfl) (fun _ => h)

theorem reserves_of_isParked {j : Job} (h : j.isParked = true) : j.state.reserves = true := by
  unfold Job.isParked at h
  split at h
  · rename_i hst; rw [hst]; rfl
  · cases h

theorem accounts_jobUnparked (s : State) (t : Tag) : Accounts s (s.jobUnparked t) :=
  LiveChange.accounts
    { tag := fun j => by split <;> rfl
      doses := fun j => SameDoses.of_eq (by split <;> rfl)
      dosing := fun _ j hd => by split; · rfl
                                 · exact hd
      topUp := .inr (.inr (fun j => by split <;> rfl)) }
    (fun j _ _ c => by
      split
      · simp only [Job.outstandingOn, reserves_of_isParked ‹_›]; rfl
      · rfl)

/-- A job that becomes DOSED with no outstanding steps reserved none (R8, R47). -/
theorem accounts_jobDosed {s : State} {t : Tag} (h : ¬ Attends s t)
    (hdone : ∀ j ∈ s.orders.jobs, j.live t = true → ∀ d ∈ j.doses, d.outstanding = 0) : Accounts s (s.jobDosed t) :=
  LiveChange.accounts
    { tag := fun j => by split <;> rfl
      doses := fun j => SameDoses.of_eq (by split <;> rfl)
      dosing := fun ha => absurd ha h
      topUp := .inr (.inr (fun j => by split <;> rfl)) }
    (fun j hj hl c => by
      have hzero : ((j.doses.filter (fun d => d.canister = c)).map (·.outstanding)).sum = 0 := by
        refine List.sum_eq_zero (fun n hn => ?_)
        obtain ⟨d, hd, rfl⟩ := List.mem_map.1 hn
        exact hdone j hj hl d (List.mem_filter.1 hd).1
      split <;> simp [Job.outstandingOn, JobState.reserves, hzero])

end Sys2Proof.ColourantBank
end

section
/-! PROOFS. A canister's test for a return to service and its run end (R45, R51), and what the finishing of a job releases (R11, R47). -/
namespace Sys2Proof.ColourantBank

open Sys2Proof Sys2Proof.Machine
open Sys2Proof.DoseCalculation (inService_iff)

/-! ## The tests of a canister's state (R44, R51) -/

@[simp] theorem retest_usable (k : Canister) : k.retest.usable = k.usable := by
  unfold Canister.retest
  split
  · split
    · rfl
    · split <;> rfl
  · rfl

theorem retest_of_not_short {k : Canister} (h : ∀ x, k.state ≠ .short x) : k.retest = k := by
  unfold Canister.retest
  split
  · exact absurd ‹_› (h _)
  · rfl

theorem retest_state_of_short {k : Canister} {x : ShortCause} (h : k.state = .short x) :
    k.retest.state = if k.tripped then .short .float else if k.reserved ≤ k.usable then serviceState k.usable k.lowMark
      else .short .belowReserved := by
  unfold Canister.retest
  rw [h]
  dsimp only
  split
  · rfl
  · split <;> rfl

/-- A canister that the test of R51 leaves in READY or LOW is covered, where it was before (R48). -/
theorem retest_covered {k : Canister} (h : k.state = .ready ∨ k.state = .low → k.reserved ≤ k.usable)
    (hk : k.retest.state = .ready ∨ k.retest.state = .low) : k.retest.reserved ≤ k.retest.usable := by
  rw [Canister.retest_reserved, retest_usable]
  by_cases hs : ∃ x, k.state = .short x
  · obtain ⟨x, hx⟩ := hs
    by_contra hn
    rw [retest_state_of_short hx] at hk
    cases ht : k.tripped <;> simp [ht, hn] at hk
  · rw [retest_of_not_short (fun x hx => hs ⟨x, hx⟩)] at hk
    exact h hk

/-! ## Finishing a job (R11) -/

theorem job_eq_of_tag {s : State} (h : (s.orders.jobs.map (·.tag)).Nodup) {j k : Job} (hj : j ∈ s.orders.jobs)
    (hk : k ∈ s.orders.jobs) (ht : j.tag = k.tag) : j = k :=
  List.inj_on_of_nodup_map h hj hk ht

theorem live_iff (j : Job) (t : Tag) : j.live t = true ↔ j.tag = t ∧ j.finished = false := by
  simp [Job.live]

theorem liveJob_some {s : State} {t : Tag} {j : Job} (h : s.liveJob t = some j) :
    j ∈ s.orders.jobs ∧ j.tag = t ∧ j.finished = false :=
  ⟨List.mem_of_find?_eq_some h, (live_iff j t).1 (List.find?_some (p := fun j : Job => j.live t) (l := s.orders.jobs) h)⟩

theorem stationJob_some {s : State} {j : Job} (h : s.stationJob = some j) :
    j ∈ s.orders.jobs ∧ s.station.job = some j.tag ∧ j.finished = false := by
  unfold State.stationJob at h
  split at h
  · cases h
  · rename_i t hjob
    obtain ⟨hmem, rfl, hunf⟩ := liveJob_some h
    exact ⟨hmem, hjob, hunf⟩

theorem finished_of_dosing {j : Job} (h : j.state = .dosing) : j.finished = false := by
  simp [Job.finished, h]

/-- The job the station works on is the unfinished one of its tag, and DOSING. -/
theorem dosing_of_attends {s : State} (h : Sound s) {t : Tag} (ha : Attends s t) {j : Job} (hj : j ∈ s.orders.jobs)
    (ht : j.tag = t) : j.state = .dosing := by
  obtain ⟨hjob, hdis, hheld⟩ := ha
  obtain ⟨k, hk, hkt, hkd⟩ := h.dosing.job t hjob hdis hheld
  rw [job_eq_of_tag h.tags hj hk (ht.trans hkt.symm)]
  exact hkd

/-- The sum of R47 where the unfinished job of a tag changes. -/
theorem outstandingOn_updateLive {s : State} (h : (s.orders.jobs.map (·.tag)).Nodup) {t : Tag} {j : Job}
    (hj : j ∈ s.orders.jobs) (hl : j.live t = true) (f : Job → Job) (c : CanisterId) :
    (s.updateLive t f).outstandingOn c + j.outstandingOn c = s.outstandingOn c + (f j).outstandingOn c := by
  simp only [State.outstandingOn, State.updateLive, List.map_map]
  obtain ⟨l, r, hlr⟩ := List.append_of_mem hj
  rw [hlr] at h ⊢
  simp only [List.map_append, List.map_cons, List.nodup_append, List.nodup_cons] at h
  obtain ⟨-, ⟨hr, -⟩, hlt⟩ := h
  have ht := ((live_iff j t).1 hl).1
  have hsame : ∀ k : Job, k.tag ≠ t → ((fun j => j.outstandingOn c) ∘ fun k => if k.live t = true then f k else k) k = k.outstandingOn c :=
    fun k hk => by
      have hk' : ¬ k.live t = true := fun hlive => hk ((live_iff k t).1 hlive).1
      simp [hk']
  have hleft : (l.map ((fun j => j.outstandingOn c) ∘ fun k => if k.live t = true then f k else k)) = l.map (·.outstandingOn c) :=
    List.map_congr_left (fun k hk => hsame k (fun e => hlt k.tag (List.mem_map_of_mem hk) j.tag (by simp) (by rw [e, ht])))
  have hright : (r.map ((fun j => j.outstandingOn c) ∘ fun k => if k.live t = true then f k else k)) = r.map (·.outstandingOn c) :=
    List.map_congr_left (fun k hk => hsame k (fun e => hr (by rw [ht, ← e]; exact List.mem_map_of_mem hk)))
  simp only [List.map_append, List.map_cons, List.sum_append, List.sum_cons, hleft, hright, Function.comp_apply, hl, if_true]
  omega

theorem mayFinish_cases {a b : JobState} (h : a.mayFinish b = true) :
    (b = .cancelled ∧ (a = .queued ∨ a = .dosing)) ∨ (b ≠ .cancelled ∧ a ≠ .dosing ∧ a.reserves = false ∧ b.reserves = false) := by
  unfold JobState.mayFinish at h
  split at h <;> simp_all [JobState.reserves]

theorem dosingOk_releaseDose {s : State} (h : s.DosingOk) (d : Dose) : (s.releaseDose d).DosingOk := by
  unfold State.releaseDose
  dsimp only
  generalize hk : ({ s.canister d.canister with reserved := (s.canister d.canister).reserved - d.outstanding } : Canister) = k
  have hstate : k.state = (s.canister d.canister).state := by rw [← hk]
  have hreserved : k.reserved ≤ (s.canister d.canister).reserved := by rw [← hk]; exact Nat.sub_le _ _
  have husable : k.usable = (s.canister d.canister).usable := by rw [← hk]
  by_cases hserving : (s.canister d.canister).state = .ready ∨ (s.canister d.canister).state = .low
  · have hsame : k.retest = k := retest_of_not_short (fun x hx => by rw [hstate] at hx; simp [hx] at hserving)
    have hcov := h.covered d.canister hserving
    rw [hsame]
    exact dosingOk_setCanister h (fun _ => by omega) (fun _ _ _ _ => by rw [hstate]; exact hserving)
  · exact dosingOk_setCanister_idle h (no_topUp_out hserving h)
      (retest_covered (fun hk' => absurd (hstate ▸ hk') hserving))

theorem dosingOk_foldl_releaseDose (l : List Dose) {s : State} (h : s.DosingOk) : (l.foldl State.releaseDose s).DosingOk := by
  induction l generalizing s with
  | nil => exact h
  | cons d l ih => exact ih (dosingOk_releaseDose h d)

theorem sameDosing_postFinish (s : State) (j : Job) (fin : JobState) : SameDosing s (s.postFinish j fin) := by
  unfold State.postFinish
  dsimp only
  split <;> exact SameDosing.of_eq rfl rfl rfl rfl

/-- A job's record as it finishes: its state, its finish number and time (R11). -/
def finishAs (s : State) (fin : JobState) (k : Job) : Job :=
  { k with state := fin, finish := some { number := s.orders.finishCounter + 1, time := s.line.clock } }

/-- The Order Table as a job finishes: its record and the finish counter (R11). -/
def ended (s : State) (t : Tag) (fin : JobState) : State :=
  (s.updateLive t (finishAs s fin)).setFinishCounter (s.orders.finishCounter + 1)

theorem finishJob_of_none {s : State} {t : Tag} (h : s.liveJob t = none) (fin : JobState) : s.finishJob t fin = s := by
  simp only [State.finishJob, h]

theorem finishJob_of_not_mayFinish {s : State} {t : Tag} {j : Job} (h : s.liveJob t = some j) {fin : JobState}
    (hmay : ¬ j.state.mayFinish fin = true) : s.finishJob t fin = s := by
  simp only [State.finishJob, h, if_neg hmay]

theorem finishJob_of_mayFinish {s : State} {t : Tag} {j : Job} (h : s.liveJob t = some j) {fin : JobState}
    (hmay : j.state.mayFinish fin = true) :
    s.finishJob t fin =
      (if fin = .cancelled then j.doses.foldl State.releaseDose (ended s t fin) else ended s t fin).postFinish j fin := by
  simp only [State.finishJob, h, if_pos hmay, ended]
  rfl

theorem liveChange_finishAs {s : State} {t : Tag} (hna : ¬ Attends s t) (fin : JobState) : LiveChange s t (finishAs s fin) where
  tag _ := rfl
  doses _ := SameDoses.of_eq rfl
  dosing ha := absurd ha hna
  topUp := .inr (.inr (fun _ => rfl))

theorem dosingOk_ended {s : State} (h : s.DosingOk) {t : Tag} (hna : ¬ Attends s t) (fin : JobState) :
    (ended s t fin).DosingOk :=
  have e : SameDosing (s.updateLive t (finishAs s fin)) (ended s t fin) := SameDosing.of_eq rfl rfl rfl rfl
  e.dosingOk ((liveChange_finishAs hna fin).dosingOk h)

/-- A job that finishes without a cancel has reserved nothing since it was dosed. -/
theorem accounts_ended {s : State} (hs : Sound s) {t : Tag} {j : Job} (hj : j ∈ s.orders.jobs) (ht : j.tag = t)
    (hna : ¬ Attends s t) {fin : JobState} (hold : j.state.reserves = false) (hnew : fin.reserves = false) :
    Accounts s (ended s t fin) :=
  ((liveChange_finishAs hna fin).accounts (fun k hk hl c => by
    have hkj : k = j := job_eq_of_tag hs.tags hk hj (((live_iff k t).1 hl).1.trans ht.symm)
    subst hkj
    simp [Job.outstandingOn, finishAs, hold, hnew])).trans (accounts_of_eq rfl rfl rfl rfl)

/-- A cancelled job's outstanding steps leave the reserved steps and the sum of R47 alike. -/
theorem reservedOk_cancelled {s : State} (hs : Sound s) {t : Tag} {j : Job} (hj : j ∈ s.orders.jobs) (hl : j.live t = true)
    (hna : ¬ Attends s t) (hold : j.state.reserves = true) (h : s.ReservedOk) :
    (j.doses.foldl State.releaseDose (ended s t .cancelled)).ReservedOk := by
  obtain ⟨horders, hdrives, hstation, hreserved⟩ := foldl_releaseDose j.doses (ended s t .cancelled)
  have htied : Tied (ended s t .cancelled) :=
    ((liveChange_finishAs hna .cancelled).tied hs.dosing (Tied.of_reservedOk h)).congr rfl rfl rfl
  refine (htied.congr (congrArg _ horders) hdrives hstation).reservedOk (fun c => ?_)
  have hsum := outstandingOn_updateLive hs.tags hj hl (finishAs s .cancelled) c
  have hbefore : ((j.doses.filter (fun d => d.canister = c)).map (·.outstanding)).sum = j.outstandingOn c := by
    simp [Job.outstandingOn, hold]
  calc ((j.doses.foldl State.releaseDose (ended s t .cancelled)).canister c).reserved
      = (s.canister c).reserved - j.outstandingOn c := by rw [hreserved, hbefore]; rfl
    _ = s.outstandingOn c - j.outstandingOn c := by rw [h.reserved]
    _ = (ended s t .cancelled).outstandingOn c := Nat.sub_eq_of_eq_add (by
        rw [← Nat.add_zero (s.outstandingOn c)]
        exact hsum.symm)
    _ = (j.doses.foldl State.releaseDose (ended s t .cancelled)).outstandingOn c := by
        simp only [State.outstandingOn, horders]

/-- The end of a job (R11): a cancel finds it away from the station's work, and no other end finds it DOSING. -/
theorem accounts_finishJob {s : State} {t : Tag} (fin : JobState)
    (h : fin = .cancelled → ∀ j, s.liveJob t = some j → j.state = .dosing → ¬ Attends s t) : Accounts s (s.finishJob t fin) := by
  refine Accounts.of_sound (keeps_finishJob s t fin) (fun hs => ?_)
  cases hlive : s.liveJob t with
  | none => rw [finishJob_of_none hlive]; exact Accounts.refl s
  | some j =>
    by_cases hmay : j.state.mayFinish fin = true
    · obtain ⟨hj, ht, hunf⟩ := liveJob_some hlive
      have hna : ¬ Attends s t := fun ha => by
        have hd := dosing_of_attends hs ha hj ht
        rcases mayFinish_cases hmay with ⟨hfin, -⟩ | ⟨-, hnd, -⟩
        · exact h hfin j hlive hd ha
        · exact hnd hd
      have hpost := sameDosing_postFinish (if fin = .cancelled then j.doses.foldl State.releaseDose (ended s t fin)
        else ended s t fin) j fin
      rcases mayFinish_cases hmay with ⟨rfl, hold⟩ | ⟨hfin, -, hold, hnew⟩
      · have hreserves : j.state.reserves = true := by rcases hold with hold | hold <;> rw [hold] <;> rfl
        have hkeeps := keeps_finishJob s t .cancelled
        rw [finishJob_of_mayFinish hlive hmay] at hkeeps ⊢
        rw [if_pos rfl] at hpost hkeeps ⊢
        exact Accounts.of_keeps hkeeps
          (fun hs => hpost.dosingOk (dosingOk_foldl_releaseDose _ (dosingOk_ended hs.dosing hna .cancelled)))
          (fun hs hr => hpost.reservedOk (reservedOk_cancelled hs hj ((live_iff j t).2 ⟨ht, hunf⟩) hna hreserves hr))
      · rw [finishJob_of_mayFinish hlive hmay]
        rw [if_neg hfin] at hpost ⊢
        exact (accounts_ended hs hj ht hna hold hnew).trans hpost.accounts
    · rw [finishJob_of_not_mayFinish hlive hmay]; exact Accounts.refl s

/-! ## A run's end (R94) -/

/-- The record of a canister after a run end on it (R45). -/
def runEnded (k : Canister) (pumped : Nat) (topUp : Bool) : Canister := ((k.charge pumped topUp).reexamine).completeOffline

theorem bankRunEnd_canister (s : State) (c e : CanisterId) (n : Nat) (topUp : Bool) :
    (s.bankRunEnd c n topUp).canister e = if e = c then runEnded (s.canister c) n topUp else s.canister e := by
  rw [← State.setCanister_canister]
  unfold State.bankRunEnd
  dsimp only
  split <;> rfl

theorem bankRunEnd_same (s : State) (c : CanisterId) (n : Nat) (topUp : Bool) :
    (s.bankRunEnd c n topUp).orders = s.orders ∧ (s.bankRunEnd c n topUp).drives = s.drives ∧
      (s.bankRunEnd c n topUp).station = s.station := by
  unfold State.bankRunEnd
  dsimp only
  split <;> exact ⟨rfl, rfl, rfl⟩

theorem reexamine_of_serving {k : Canister} (h : k.state = .ready ∨ k.state = .low) :
    k.reexamine = { k with state := serviceState k.usable k.lowMark } := by
  rw [Canister.reexamine, if_pos ((inService_iff k).2 h)]

theorem reexamine_of_not_serving {k : Canister} (h : ¬ (k.state = .ready ∨ k.state = .low)) : k.reexamine = k.retest := by
  rw [Canister.reexamine, if_neg (fun hs => h ((inService_iff k).1 hs))]

theorem reexamine_reserved (k : Canister) : k.reexamine.reserved = k.reserved := by
  unfold Canister.reexamine
  split
  · rfl
  · exact k.retest_reserved

theorem reexamine_usable (k : Canister) : k.reexamine.usable = k.usable := by
  unfold Canister.reexamine
  split
  · rfl
  · exact retest_usable k

theorem completeOffline_cases (k : Canister) :
    (k.offlinePending = true ∧ k.completeOffline = { k with state := .offline, offlinePending := false }) ∨
      (k.offlinePending = false ∧ k.completeOffline = k) := by
  unfold Canister.completeOffline
  cases hk : k.offlinePending
  · exact .inr ⟨rfl, rfl⟩
  · exact .inl ⟨rfl, rfl⟩

theorem runEnded_reserved (k : Canister) (n : Nat) (topUp : Bool) :
    (runEnded k n topUp).reserved = if topUp then k.reserved else k.reserved - n := by
  unfold runEnded
  rcases completeOffline_cases (k.charge n topUp).reexamine with ⟨-, h⟩ | ⟨-, h⟩ <;> rw [h] <;>
    exact reexamine_reserved (k.charge n topUp)

theorem runEnded_usable (k : Canister) (n : Nat) (topUp : Bool) : (runEnded k n topUp).usable = k.usable - n := by
  unfold runEnded
  rcases completeOffline_cases (k.charge n topUp).reexamine with ⟨-, h⟩ | ⟨-, h⟩ <;> rw [h] <;>
    exact reexamine_usable (k.charge n topUp)

theorem reexamine_covered {k : Canister} (h : k.state = .ready ∨ k.state = .low → k.reserved ≤ k.usable)
    (hk : k.reexamine.state = .ready ∨ k.reexamine.state = .low) : k.reexamine.reserved ≤ k.reexamine.usable := by
  by_cases hs : k.state = .ready ∨ k.state = .low
  · rw [reexamine_of_serving hs]
    exact h hs
  · rw [reexamine_of_not_serving hs] at hk ⊢
    exact retest_covered h hk

/-- A run end leaves a canister in READY or LOW covered (R48): a top-up's steps were covered apart from the reserved steps (R46). -/
theorem runEnded_covered {k : Canister} {n : Nat} {topUp : Bool}
    (h : k.state = .ready ∨ k.state = .low → k.reserved + (if topUp then n else 0) ≤ k.usable)
    (hk : (runEnded k n topUp).state = .ready ∨ (runEnded k n topUp).state = .low) :
    (runEnded k n topUp).reserved ≤ (runEnded k n topUp).usable := by
  have hcharged : k.state = .ready ∨ k.state = .low → (k.charge n topUp).reserved ≤ (k.charge n topUp).usable := fun hs => by
    have := h hs
    cases topUp <;> simp [Canister.charge] at this ⊢ <;> omega
  unfold runEnded at hk ⊢
  rcases completeOffline_cases (k.charge n topUp).reexamine with ⟨-, ho⟩ | ⟨-, ho⟩
  · rw [ho] at hk
    simp at hk
  · rw [ho] at hk ⊢
    exact reexamine_covered hcharged hk

end Sys2Proof.ColourantBank
end

section
/-! PROOFS. The end of a run at the drive, the station and the bank: the dose, its canister and the round change together (R45, R71, R94). -/
namespace Sys2Proof.ColourantBank

open Sys2Proof Sys2Proof.Machine
open Sys2Proof.DoseCalculation (inService_iff)

/-- The steps pumped are added to the delivered steps of the run's dose (R94). -/
def deliver (run : DoseRun) (j : Job) : Job := j.mapDose run.code (fun d => { d with delivered := d.delivered + run.pumped })

/-- The round with the run's end recorded against it (R94). -/
def roundEnded (s : State) (run : DoseRun) (cause : EndCause) : Option Round :=
  s.station.round.map (fun q => q.endRun run.canister { pumped := run.pumped, cause := cause })

/-- The run end is the last of the round that the station, not halted, waits for (R94, R105). -/
def LastEnd (s : State) (run : DoseRun) (cause : EndCause) : Prop :=
  s.station.state = .dosing ∧ ((roundEnded s run cause).map Round.over).getD false = true ∧ s.station.halted = false

/-- A run end recorded, but for the settle that it may start. -/
def runEndTaken (s : State) (run : DoseRun) (cause : EndCause) : State :=
  (State.updateLive { s with station := { s.station with round := roundEnded s run cause } } run.tag (deliver run)).bankRunEnd
    run.canister run.pumped run.topUp

theorem runEndTaken_station (s : State) (run : DoseRun) (cause : EndCause) :
    (runEndTaken s run cause).station = { s.station with round := roundEnded s run cause } :=
  (bankRunEnd_same _ _ _ _).2.2

theorem stationRunEnd_eq (s : State) (run : DoseRun) (cause : EndCause) :
    s.stationRunEnd run cause =
      if (runEndTaken s run cause).station.state = .dosing ∧
          ((runEndTaken s run cause).station.round.map Round.over).getD false = true ∧
          (runEndTaken s run cause).station.halted = false then (runEndTaken s run cause).startSettle .round
      else runEndTaken s run cause := rfl

theorem stationRunEnd_of_last {s : State} {run : DoseRun} {cause : EndCause} (h : LastEnd s run cause) :
    s.stationRunEnd run cause = (runEndTaken s run cause).startSettle .round := by
  rw [stationRunEnd_eq, runEndTaken_station]
  exact if_pos h

theorem stationRunEnd_of_not_last {s : State} {run : DoseRun} {cause : EndCause} (h : ¬ LastEnd s run cause) :
    s.stationRunEnd run cause = runEndTaken s run cause := by
  rw [stationRunEnd_eq, runEndTaken_station]
  exact if_neg h

theorem stationRunEnd_station (s : State) (run : DoseRun) (cause : EndCause) :
    (LastEnd s run cause → (s.stationRunEnd run cause).station =
      { s.station with round := roundEnded s run cause, state := .weighing .round, transfer := none }) ∧
    (¬ LastEnd s run cause → (s.stationRunEnd run cause).station = { s.station with round := roundEnded s run cause }) := by
  refine ⟨fun h => ?_, fun h => ?_⟩
  · rw [stationRunEnd_of_last h, State.startSettle, runEndTaken_station]
  · rw [stationRunEnd_of_not_last h, runEndTaken_station]

/-- What is the same with and without the settle. -/
theorem stationRunEnd_taken {α : Type} (g : State → α) (hg : ∀ u : State, g (u.startSettle .round) = g u) (s : State)
    (run : DoseRun) (cause : EndCause) : g (s.stationRunEnd run cause) = g (runEndTaken s run cause) := by
  by_cases h : LastEnd s run cause
  · rw [stationRunEnd_of_last h, hg]
  · rw [stationRunEnd_of_not_last h]

theorem stationRunEnd_orders (s : State) (run : DoseRun) (cause : EndCause) :
    (s.stationRunEnd run cause).orders = (s.updateLive run.tag (deliver run)).orders :=
  (stationRunEnd_taken (·.orders) (fun _ => rfl) s run cause).trans (bankRunEnd_same _ _ _ _).1

theorem stationRunEnd_drives (s : State) (run : DoseRun) (cause : EndCause) : (s.stationRunEnd run cause).drives = s.drives :=
  (stationRunEnd_taken (·.drives) (fun _ => rfl) s run cause).trans (bankRunEnd_same _ _ _ _).2.1

theorem stationRunEnd_canister (s : State) (run : DoseRun) (cause : EndCause) (e : CanisterId) :
    (s.stationRunEnd run cause).canister e =
      if e = run.canister then runEnded (s.canister run.canister) run.pumped run.topUp else s.canister e :=
  (stationRunEnd_taken (·.canister e) (fun _ => rfl) s run cause).trans (bankRunEnd_canister _ _ _ _ _)

/-! ## A drive that ends its run (R71, R72, R73, R76) -/

theorem endRun_of_run {s : State} {m : Manifold} {run : DoseRun} (h : (s.drive m).state = .dosing run) (after : DriveState)
    (cause : EndCause) : s.endRun m after cause = (s.setDrive m { s.drive m with state := after }).stationRunEnd run cause := by
  simp only [State.endRun, (run?_eq_some_iff _ _).2 h]

theorem endRun_of_no_run {s : State} {m : Manifold} (h : ∀ r, (s.drive m).state ≠ .dosing r) (after : DriveState)
    (cause : EndCause) : s.endRun m after cause = s := by
  simp only [State.endRun, (run?_eq_none_iff _).2 h]

/-- The agreement as a run is about to end: as `DosingOk`, but that the run on this drive may have reached its steps asked, and its
canister may have left service by a float trip (R71, R72). -/
structure Ending (s : State) (m : Manifold) (run : DoseRun) : Prop where
  inProgress : (s.drive m).state = .dosing run
  pumped : run.pumped ≤ run.asked
  covered : ∀ c : CanisterId, (s.canister c).state = .ready ∨ (s.canister c).state = .low →
    (s.canister c).reserved + s.topUpAsked c ≤ (s.canister c).usable
  runs : ∀ n r, (s.drive n).state = .dosing r → manifoldOf r.canister = n ∧ s.station.state = .dosing ∧
    ∃ q, s.station.round = some q ∧ ∃ x ∈ q.runs, x.canister = r.canister ∧ x.ended = none
  others : ∀ n r, n ≠ m → (s.drive n).state = .dosing r → r.pumped < r.asked ∧
    (r.topUp = true → (s.canister r.canister).state = .ready ∨ (s.canister r.canister).state = .low)
  densities : ∀ q, s.station.round = some q → ∀ x ∈ q.runs, 0 < x.density
  job : ∀ t, s.station.job = some t → ∃ j ∈ s.orders.jobs, j.tag = t ∧ j.state = .dosing

theorem Ending.of_dosingOk {s : State} (h : s.DosingOk) {m : Manifold} {run : DoseRun} (hr : (s.drive m).state = .dosing run) :
    Ending s m run := by
  obtain ⟨-, hpumped, hstate, -⟩ := h.runs m run hr
  exact
    { inProgress := hr
      pumped := hpumped.le
      covered := h.covered
      runs := fun n r hn => by
        obtain ⟨hm, -, hst, -, hround⟩ := h.runs n r hn
        exact ⟨hm, hst, hround⟩
      others := fun n r _ hn => by
        obtain ⟨-, hp, -, hserving, -⟩ := h.runs n r hn
        exact ⟨hp, hserving⟩
      densities := h.densities
      job := fun t ht => h.job t ht (by simp [hstate]) (by simp [hstate]) }

section
variable {s : State} {m : Manifold} {run : DoseRun} {after : DriveState} {cause : EndCause}

theorem Ending.station_state (h : Ending s m run) : s.station.state = .dosing := (h.runs m run h.inProgress).2.1

theorem Ending.manifold (h : Ending s m run) : manifoldOf run.canister = m := (h.runs m run h.inProgress).1

theorem endRun_orders (h : Ending s m run) :
    (s.endRun m after cause).orders = (s.updateLive run.tag (deliver run)).orders := by
  rw [endRun_of_run h.inProgress, stationRunEnd_orders]
  simp [State.updateLive]

theorem endRun_canister (h : Ending s m run) (e : CanisterId) :
    (s.endRun m after cause).canister e =
      if e = run.canister then runEnded (s.canister run.canister) run.pumped run.topUp else s.canister e := by
  have hc : ∀ c, (s.setDrive m { s.drive m with state := after }).canister c = s.canister c := canister_congr (by simp)
  rw [endRun_of_run h.inProgress, stationRunEnd_canister, hc, hc]

theorem endRun_drive (h : Ending s m run) (n : Manifold) :
    (s.endRun m after cause).drive n = if n = m then { s.drive m with state := after } else s.drive n := by
  rw [endRun_of_run h.inProgress, ← State.setDrive_drive]
  cases n <;> simp only [State.drive, stationRunEnd_drives]

theorem endRun_station (h : Ending s m run) :
    (s.endRun m after cause).station.job = s.station.job ∧ (s.endRun m after cause).station.firstRound = s.station.firstRound ∧
    (s.endRun m after cause).station.round = roundEnded s run cause ∧
    ((s.endRun m after cause).station.state = .dosing ∨ ((s.endRun m after cause).station.state = .weighing .round ∧
      ∀ q, roundEnded s run cause = some q → ∀ x ∈ q.runs, x.ended ≠ none)) := by
  rw [endRun_of_run h.inProgress]
  have hround : roundEnded (s.setDrive m { s.drive m with state := after }) run cause = roundEnded s run cause := by
    simp [roundEnded]
  obtain ⟨hlast, hnot⟩ := stationRunEnd_station (s.setDrive m { s.drive m with state := after }) run cause
  rw [hround] at hlast hnot
  by_cases hl : LastEnd (s.setDrive m { s.drive m with state := after }) run cause
  · rw [hlast hl]
    refine ⟨by simp, by simp, rfl, .inr ⟨rfl, fun q hq x hx => ?_⟩⟩
    obtain ⟨-, hover, -⟩ := hl
    rw [hround, hq] at hover
    have hx' := List.all_eq_true.1 hover x hx
    exact Option.isSome_iff_ne_none.1 hx'
  · rw [hnot hl]
    exact ⟨by simp, by simp, rfl, .inl (by simp [h.station_state])⟩

/-- Each run of the round, once an end is recorded, is one of before, marked ended where it was the run in progress on the canister. -/
theorem mem_roundEnded {q : Round} (hq : roundEnded s run cause = some q) :
    ∃ p, s.station.round = some p ∧ q.topUp = p.topUp ∧ ∀ x ∈ q.runs, ∃ y ∈ p.runs,
      x = if y.canister = run.canister ∧ y.ended = none then { y with ended := some { pumped := run.pumped, cause := cause } } else y := by
  obtain ⟨p, hp, rfl⟩ := Option.map_eq_some_iff.1 hq
  refine ⟨p, hp, rfl, fun x hx => ?_⟩
  obtain ⟨y, hy, rfl⟩ := List.mem_map.1 hx
  exact ⟨y, hy, rfl⟩

/-- A run in progress of the round on another canister is still in progress. -/
theorem mem_roundEnded_of_other {p : Round} (hp : s.station.round = some p) {y : RoundRun} (hy : y ∈ p.runs)
    (hc : y.canister ≠ run.canister) : ∃ q, roundEnded s run cause = some q ∧ y ∈ q.runs := by
  refine ⟨_, by rw [roundEnded, hp]; rfl, ?_⟩
  exact List.mem_map.2 ⟨y, hy, by simp [hc]⟩

/-- After a run's end the runs in progress are those of the other drive. -/
theorem endRun_dosing (h : Ending s m run) (hafter : ∀ r, after ≠ .dosing r) {n : Manifold} {r : DoseRun}
    (hr : ((s.endRun m after cause).drive n).state = .dosing r) : n ≠ m ∧ (s.drive n).state = .dosing r := by
  rw [endRun_drive h] at hr
  split at hr
  · exact absurd hr (hafter r)
  · exact ⟨‹_›, hr⟩

theorem endRun_topUpAsked_le (h : Ending s m run) (hafter : ∀ r, after ≠ .dosing r) (c : CanisterId) :
    (s.endRun m after cause).topUpAsked c ≤ s.topUpAsked c ∧
      (c = run.canister → (s.endRun m after cause).topUpAsked c = 0) := by
  by_cases hm : manifoldOf c = m
  · have hzero : (s.endRun m after cause).topUpAsked c = 0 :=
      topUpAsked_eq_zero (fun r hr _ => absurd hm (endRun_dosing h hafter hr).1)
    exact ⟨by omega, fun _ => hzero⟩
  · refine ⟨le_of_eq ?_, fun hc => absurd (hc ▸ h.manifold) hm⟩
    simp only [State.topUpAsked, State.runOn, endRun_drive h, if_neg hm]

theorem dosingOk_endRun (h : Ending s m run) (hafter : ∀ r, after ≠ .dosing r) : (s.endRun m after cause).DosingOk where
  covered c hc := by
    obtain ⟨hle, hzero⟩ := endRun_topUpAsked_le (cause := cause) h hafter c
    rw [endRun_canister h] at hc ⊢
    by_cases he : c = run.canister
    · rw [if_pos he] at hc ⊢
      rw [hzero he, Nat.add_zero]
      refine runEnded_covered (fun hs => ?_) hc
      have hcov := h.covered run.canister hs
      rw [topUpAsked_of_run (by rw [h.manifold]; exact h.inProgress) rfl] at hcov
      have := h.pumped
      cases ht : run.topUp <;> simp [ht] at hcov ⊢ <;> omega
    · rw [if_neg he] at hc ⊢
      exact (Nat.add_le_add_left hle _).trans (h.covered c hc)
  runs n r hr := by
    obtain ⟨hn, hr'⟩ := endRun_dosing h hafter hr
    obtain ⟨hm, -, p, hp, y, hy, hyc, hye⟩ := h.runs n r hr'
    obtain ⟨hpumped, hserving⟩ := h.others n r hn hr'
    have hne : r.canister ≠ run.canister := fun e => hn (by rw [← hm, e, h.manifold])
    obtain ⟨-, -, hround, hstate⟩ := endRun_station (after := after) (cause := cause) h
    obtain ⟨q, hq, hyq⟩ := mem_roundEnded_of_other (cause := cause) hp hy (by rw [hyc]; exact hne)
    refine ⟨hm, hpumped, ?_, fun ht => ?_, q, by rw [hround, hq], y, hyq, hyc, hye⟩
    · rcases hstate with hst | ⟨-, hall⟩
      · exact hst
      · exact absurd hye (hall q hq y hyq)
    · rw [endRun_canister h, if_neg hne]
      exact hserving ht
  densities q hq x hx := by
    rw [(endRun_station h).2.2.1] at hq
    obtain ⟨p, hp, -, hruns⟩ := mem_roundEnded hq
    obtain ⟨y, hy, rfl⟩ := hruns x hx
    have hpos := h.densities p hp y hy
    split <;> exact hpos
  topUp f _ := by
    rcases (endRun_station (after := after) (cause := cause) h).2.2.2 with hst | ⟨hst, -⟩
    · exact .inl hst
    · exact .inr (.inl hst)
  job t ht _ _ := by
    rw [(endRun_station h).1] at ht
    obtain ⟨j, hj, hjt, hjd⟩ := h.job t ht
    rw [endRun_orders h]
    exact ⟨_, List.mem_map_of_mem hj, by split <;> exact hjt, by split <;> exact hjd⟩

/-! ## The bank's account at a run's end (R45, R46, R47) -/

/-- The dose of a run in progress, in the job at the station. -/
theorem run_dose (hr : s.ReservedOk) {n : Manifold} {r : DoseRun} (h : (s.drive n).state = .dosing r) :
    ∃ j ∈ s.orders.jobs, j.tag = r.tag ∧ j.state = .dosing ∧ s.station.job = some r.tag ∧
      ∃ d ∈ j.doses, d.code = r.code ∧ d.canister = r.canister ∧ d.outstanding = if r.topUp then 0 else r.asked := by
  obtain ⟨hjob, j, hj, hjt, hjd, hdose⟩ := hr.runs n r h
  exact ⟨j, hj, (Option.some.inj (hjob.symm.trans hjt)).symm, hjd, hjob, hdose⟩

theorem outstandingOn_of_dosing {j : Job} (h : j.state = .dosing) (c : CanisterId) :
    j.outstandingOn c = ((j.doses.filter (fun d => d.canister = c)).map (·.outstanding)).sum := by
  simp [Job.outstandingOn, h, JobState.reserves]

theorem live_of_dosing {j : Job} (h : j.state = .dosing) : j.live j.tag = true :=
  (live_iff j j.tag).2 ⟨rfl, finished_of_dosing h⟩

/-- The steps pumped of an ordinary run leave the sum of R47; those of a top-up run were never in it. -/
theorem endRun_outstandingOn (h : Ending s m run) (hn : (s.orders.jobs.map (·.tag)).Nodup) (hr : s.ReservedOk) (c : CanisterId) :
    (s.endRun m after cause).outstandingOn c + (if c = run.canister ∧ run.topUp = false then run.pumped else 0)
      = s.outstandingOn c := by
  obtain ⟨j, hj, hjt, hjd, -, d, hd, hdcode, hdcan, hdout⟩ := run_dose hr h.inProgress
  have hsum := outstandingOn_updateLive hn hj (live_of_dosing hjd) (deliver run) c
  have hdose := sum_outstanding_delivered j.doses (hr.codes j hj) d hd run.pumped c
  have hafter : (deliver run j).outstandingOn c = (((j.doses.map (fun x => if x.code = d.code then
      { x with delivered := x.delivered + run.pumped } else x)).filter (fun x => x.canister = c)).map (·.outstanding)).sum := by
    rw [hdcode]
    exact outstandingOn_of_dosing (j := deliver run j) hjd c
  rw [← hafter, ← outstandingOn_of_dosing hjd, hdcan, hdout] at hdose
  rw [hjt] at hsum
  have hpumped := h.pumped
  have horders : (s.endRun m after cause).outstandingOn c = (s.updateLive run.tag (deliver run)).outstandingOn c := by
    simp only [State.outstandingOn, endRun_orders h]
  rw [horders]
  by_cases hc : c = run.canister
  · subst hc
    cases ht : run.topUp <;> simp [ht] at hdose ⊢ <;> omega
  · have hc' : ¬ run.canister = c := fun e => hc e.symm
    simp [hc, hc'] at hdose ⊢
    omega

/-- Another dose of the job at the station, or one without outstanding steps, is left as it is. -/
theorem endRun_hasDose (h : Ending s m run) {code n : Nat} {c : CanisterId} (hd : s.hasDose code c n)
    (hcode : code ≠ run.code ∨ n = 0) : (s.endRun m after cause).hasDose code c n := by
  obtain ⟨j, hj, hjob, hjd, d, hdj, rfl, rfl, rfl⟩ := hd
  have hjob' : (s.endRun m after cause).station.job = some j.tag := (endRun_station h).1.trans hjob
  refine ⟨if j.live run.tag then deliver run j else j, by rw [endRun_orders h]; exact List.mem_map_of_mem hj, ?_⟩
  split
  · refine ⟨hjob', hjd, _, List.mem_map_of_mem hdj, ?_⟩
    rcases hcode with hcode | hzero
    · simp [hcode]
    · split
      · refine ⟨rfl, rfl, ?_⟩
        simp only [Dose.outstanding] at hzero ⊢
        omega
      · exact ⟨rfl, rfl, rfl⟩
  · exact ⟨hjob', hjd, d, hdj, rfl, rfl, rfl⟩

/-- A run that ends with the steps asked for leaves its dose none (R94). -/
theorem endRun_hasDose_run (h : Ending s m run) (hr : s.ReservedOk) (hall : run.asked ≤ run.pumped) :
    (s.endRun m after cause).hasDose run.code run.canister 0 := by
  obtain ⟨j, hj, hjt, hjd, hjob, d, hd, hdcode, hdcan, hdout⟩ := run_dose hr h.inProgress
  refine ⟨deliver run j, ?_, ?_, hjd, _, List.mem_map_of_mem hd, ?_⟩
  · rw [endRun_orders h]
    refine List.mem_map.2 ⟨j, hj, if_pos ?_⟩
    rw [← hjt]
    exact live_of_dosing hjd
  · rw [(endRun_station h).1, hjob, ← hjt]
    rfl
  · rw [if_pos hdcode]
    refine ⟨hdcode, hdcan, ?_⟩
    simp only [Dose.outstanding] at hdout ⊢
    split at hdout <;> omega

/-- Two runs in progress are of different colourants: the job's doses have different codes, and their canisters different manifolds. -/
theorem code_ne_of_other (h : Ending s m run) (hn : (s.orders.jobs.map (·.tag)).Nodup) (hr : s.ReservedOk) {n : Manifold}
    {r : DoseRun} (hne : n ≠ m) (hrun : (s.drive n).state = .dosing r) : r.code ≠ run.code := by
  intro hcode
  obtain ⟨j, hj, hjt, -, hjob, d, hd, hdcode, hdcan, -⟩ := run_dose hr h.inProgress
  obtain ⟨k, hk, hkt, -, hkjob, e, he, hecode, hecan, -⟩ := run_dose hr hrun
  have htag : r.tag = run.tag := Option.some.inj (hkjob.symm.trans hjob)
  have hjk : k = j := job_eq_of_tag hn hk hj (by rw [hkt, hjt, htag])
  subst hjk
  have hde : e = d := List.inj_on_of_nodup_map (hr.codes k hk) he hd (by rw [hecode, hdcode, hcode])
  subst hde
  exact hne (by rw [← (h.runs n r hrun).1, ← hecan, hdcan, h.manifold])

theorem reservedOk_endRun (h : Ending s m run) (hafter : ∀ r, after ≠ .dosing r) (hn : (s.orders.jobs.map (·.tag)).Nodup)
    (hr : s.ReservedOk) : (s.endRun m after cause).ReservedOk where
  reserved c := by
    have hsum := endRun_outstandingOn (after := after) (cause := cause) h hn hr c
    have hres := hr.reserved c
    rw [endRun_canister h]
    by_cases hc : c = run.canister
    · subst hc
      rw [if_pos rfl, runEnded_reserved]
      cases ht : run.topUp <;> simp [ht] at hsum ⊢ <;> omega
    · rw [if_neg hc]
      simp [hc] at hsum
      omega
  codes j hj := by
    rw [endRun_orders h] at hj
    obtain ⟨k, hk, rfl⟩ := mem_updateLive hj
    split
    · have hcodes : (deliver run k).doses.map (·.code) = k.doses.map (·.code) := by
        simp only [deliver, Job.mapDose, List.map_map]
        exact List.map_congr_left (fun d _ => by simp only [Function.comp_apply]; split <;> rfl)
      rw [hcodes]
      exact hr.codes k hk
    · exact hr.codes k hk
  runs n r hrun := by
    obtain ⟨hne, hrun'⟩ := endRun_dosing h hafter hrun
    obtain ⟨hjob, hdose⟩ := hr.runs n r hrun'
    exact ⟨(endRun_station h).1.trans hjob, endRun_hasDose h hdose (.inl (code_ne_of_other h hn hr hne hrun'))⟩
  round q hq htop _ x hx := by
    rw [(endRun_station h).2.2.1] at hq
    obtain ⟨p, hp, htopUp, hruns⟩ := mem_roundEnded hq
    obtain ⟨y, hy, rfl⟩ := hruns x hx
    obtain ⟨hgoing, hended⟩ := hr.round p hp (htopUp ▸ htop) (.inl h.station_state) y hy
    by_cases hy' : y.canister = run.canister ∧ y.ended = none
    · rw [if_pos hy']
      refine ⟨fun hnone => by simp at hnone, fun e he hall => ?_⟩
      obtain ⟨r, hrun, -, hcode, hasked, -⟩ := hgoing hy'.2
      rw [hy'.1, h.manifold, h.inProgress] at hrun
      injection hrun with hrun
      subst hrun
      have hepumped : run.pumped = y.asked := by rw [← hall, ← Option.some.inj he]
      rw [← hcode, hy'.1]
      exact endRun_hasDose_run h hr (by omega)
    · rw [if_neg hy']
      refine ⟨fun hnone => ?_, fun e he hall => endRun_hasDose h (hended e he hall) (.inr rfl)⟩
      obtain ⟨r, hrun, hcan, hrest⟩ := hgoing hnone
      have hne : manifoldOf y.canister ≠ m := fun hm => by
        rw [hm, h.inProgress] at hrun
        injection hrun with hrun
        exact hy' ⟨by rw [← hcan, hrun], hnone⟩
      exact ⟨r, by rw [endRun_drive h, if_neg hne]; exact hrun, hcan, hrest⟩
  due f _ hst := by
    rcases (endRun_station (after := after) (cause := cause) h).2.2.2 with hst' | ⟨hst', -⟩ <;> rw [hst'] at hst <;> cases hst

end

/-- A drive that ends its run, where the agreement holds (R94). -/
theorem accounts_endRun (s : State) (m : Manifold) {after : DriveState} (hafter : ∀ r, after ≠ .dosing r) (cause : EndCause) :
    Accounts s (s.endRun m after cause) := by
  by_cases h : ∃ run, (s.drive m).state = .dosing run
  · obtain ⟨run, hrun⟩ := h
    exact Accounts.of_keeps (keeps_endRun s m after cause) (fun hs => dosingOk_endRun (Ending.of_dosingOk hs.dosing hrun) hafter)
      (fun hs hr => reservedOk_endRun (Ending.of_dosingOk hs.dosing hrun) hafter hs.tags hr)
  · rw [endRun_of_no_run (fun r hr => h ⟨r, hr⟩)]
    exact Accounts.refl s

end Sys2Proof.ColourantBank
end

section
/-! PROOFS. The station's decisions at a round boundary, and the round that it forms, keep the bank's account (R90, R91). -/
namespace Sys2Proof.ColourantBank

open Sys2Proof Sys2Proof.Machine
open Sys2Proof.DoseCalculation (inService_iff)

/-! ## The station at a round boundary (R90) -/

/-- The station with a tin on which it may decide: no round going on and no top-up due. -/
structure AtBoundary (s : State) : Prop where
  notDosing : s.station.state ≠ .dosing
  notLeaving : s.station.state ≠ .discharging ∧ s.station.state ≠ .held
  first : s.station.firstRound = none

theorem AtBoundary.job {s : State} (h : AtBoundary s) (hs : s.DosingOk) (t : Tag) (ht : s.station.job = some t) :
    ∃ j ∈ s.orders.jobs, j.tag = t ∧ j.state = .dosing := hs.job t ht h.notLeaving.1 h.notLeaving.2

theorem first_none {s : State} (h : s.DosingOk) (h1 : s.station.state ≠ .dosing) (h2 : s.station.state ≠ .weighing .round)
    (h3 : s.station.state ≠ .waitDrive) : s.station.firstRound = none := by
  cases hf : s.station.firstRound with
  | none => rfl
  | some f =>
    rcases h.topUp f hf with hst | hst | ⟨hst, -⟩
    · exact absurd hst h1
    · exact absurd hst h2
    · exact absurd hst h3

/-- The station takes up a state in which it neither doses nor weighs a round; its job stays or leaves. -/
theorem accounts_rest {s t : State} (hk : Keeps s t) (hb : t.bank = s.bank) (hj : t.orders.jobs = s.orders.jobs)
    (hd : t.drives = s.drives) (hs : Sound s → s.station.state ≠ .dosing ∧ t.station.firstRound = none ∧
      ∀ tag, t.station.job = some tag → t.station.state ≠ .discharging → t.station.state ≠ .held →
        ∃ j ∈ s.orders.jobs, j.tag = tag ∧ j.state = .dosing)
    (hround : t.station.round = none ∨ t.station.round = s.station.round)
    (ht : t.station.state ≠ .dosing) (hw : t.station.state ≠ .weighing .round) : Accounts s t :=
  Accounts.of_sound hk (fun h => by
    obtain ⟨hbefore, hfirst, hjob⟩ := hs h
    exact Rests.accounts
      { bank := hb, jobs := hj, run := fun m => by cases m <;> simp [State.drive, hd], before := hbefore, after := ht,
        first := hfirst, round := hround.imp_right (fun e => ⟨e, hw⟩), job := hjob })

/-- The station changes its state or its transfer at a boundary and keeps its job and its round. -/
theorem accounts_station_at_boundary {s : State} (h : AtBoundary s) (x : Station) (hjob : x.job = s.station.job)
    (hround : x.round = none ∨ x.round = s.station.round) (hfirst : x.firstRound = s.station.firstRound) (ht : x.state ≠ .dosing)
    (hw : x.state ≠ .weighing .round) : Accounts s { s with station := x } :=
  accounts_rest (keeps_station s x) rfl rfl rfl
    (fun hs => ⟨h.notDosing, hfirst.trans h.first, fun tag hx _ _ => h.job hs.dosing tag (hjob ▸ hx)⟩) hround ht hw

theorem accounts_startReject {s : State} (h : AtBoundary s) : Accounts s s.startReject :=
  accounts_station_at_boundary h _ rfl (.inr rfl) rfl (by simp) (by simp)

theorem accounts_startSettle {s : State} (h : AtBoundary s) {p : SettleFor} (hp : p ≠ .round) : Accounts s (s.startSettle p) :=
  accounts_station_at_boundary h _ rfl (.inr rfl) rfl (by simp) (by simpa using hp)

theorem accounts_startPark {s : State} (h : AtBoundary s) (t : Tag) (r : ParkReason) : Accounts s (s.startPark t r) := by
  unfold State.startPark
  split
  · exact Accounts.refl s
  · rename_i i _
    have h1 : Accounts s (s.setShelf i (.claimedPark t)) := accounts_of_eq rfl rfl rfl rfl
    have h2 : AtBoundary (s.setShelf i (.claimedPark t)) := ⟨h.notDosing, h.notLeaving, h.first⟩
    exact h1.trans (accounts_station_at_boundary h2 _ rfl (.inr rfl) rfl (by simp) (by simp))

theorem accounts_block {s : State} (h : AtBoundary s) (t : Tag) : Accounts s (s.block t) := by
  unfold State.block
  split
  · exact Accounts.refl s
  · exact (accounts_station_at_boundary h { s.station with state := .blocked } rfl (.inr rfl) rfl (by simp) (by simp)).trans
      (accounts_of_eq rfl rfl rfl rfl)

theorem accounts_stationEmpty {s : State} (h : s.station.state ≠ .dosing) : Accounts s s.stationEmpty :=
  accounts_rest (keeps_stationEmpty s) rfl rfl rfl (fun _ => ⟨h, rfl, fun _ ht => by cases ht⟩) (.inl rfl)
    (fun he => by cases he) (fun he => by cases he)

/-- A tin that asks for a place of the mix lane is no longer dosed (R8, R101). -/
theorem accounts_askPlace {s : State} (h : s.station.state ≠ .dosing) (hf : Sound s → s.station.firstRound = none) :
    Accounts s s.askPlace := by
  have hk := keeps_askPlace s
  unfold State.askPlace at hk ⊢
  split at hk
  · rw [if_pos ‹_›]
    exact accounts_rest hk rfl rfl rfl (fun hs => ⟨h, hf hs, fun _ _ hdis => absurd rfl hdis⟩) (.inr rfl) (by simp) (by simp)
  · rw [if_neg ‹_›]
    exact accounts_rest hk rfl rfl rfl (fun hs => ⟨h, hf hs, fun _ _ _ hheld => absurd rfl hheld⟩) (.inr rfl) (by simp) (by simp)

theorem becomeDosed_eq (s : State) (t : Tag) : s.becomeDosed t = s.askPlace.jobDosed t := by
  unfold State.becomeDosed State.askPlace
  have h : (s.jobDosed t).mixers = s.mixers := rfl
  rw [h]
  split <;> rfl

theorem askPlace_leaves (s : State) : s.askPlace.station.state = .discharging ∨ s.askPlace.station.state = .held := by
  unfold State.askPlace
  split
  · exact .inl rfl
  · exact .inr rfl

theorem accounts_becomeDosed {s : State} (h : AtBoundary s) {j : Job} (hj : j ∈ s.orders.jobs)
    (hdone : ∀ d ∈ j.doses, d.outstanding = 0) : Accounts s (s.becomeDosed j.tag) := by
  refine Accounts.of_sound (keeps_becomeDosed s j.tag) (fun hs => ?_)
  rw [becomeDosed_eq]
  have hjobs : s.askPlace.orders.jobs = s.orders.jobs := by unfold State.askPlace; split <;> rfl
  refine (accounts_askPlace h.notDosing (fun _ => h.first)).trans (accounts_jobDosed ?_ ?_)
  · rintro ⟨-, hdis, hheld⟩
    exact (askPlace_leaves s).elim hdis hheld
  · rw [hjobs]
    intro k hk hl
    rw [job_eq_of_tag hs.tags hk hj ((live_iff k j.tag).1 hl).1]
    exact hdone

/-! ## Forming a round (R91) -/

/-- The run that a dose request starts on a drive (R70). -/
def requestedRun (j : Job) (d : Dose) : DoseRun :=
  { tag := j.tag, code := d.code, canister := d.canister, asked := d.outstanding, topUp := false, pumped := 0 }

/-- The run of a round that a dose request adds (R91). -/
def requestedRoundRun (s : State) (d : Dose) : RoundRun :=
  { code := d.code, canister := d.canister, asked := d.outstanding, density := (s.canister d.canister).density, ended := none }

/-- A dose that a manifold may be asked for: one of the job's, with steps outstanding, on a canister of the manifold (R91). -/
def Requests (j : Job) (m : Manifold) (d : Dose) : Prop := d ∈ j.doses ∧ 0 < d.outstanding ∧ manifoldOf d.canister = m

theorem pick_some {s : State} {j : Job} {m : Manifold} {d : Dose} (h : s.pick j m = some d) : Requests j m d := by
  have hp := List.find?_some h
  simp only [Bool.and_eq_true, decide_eq_true_eq, beq_iff_eq] at hp
  exact ⟨List.mem_of_find?_eq_some h, hp.1.1.1, hp.1.1.2⟩

theorem driveAnswer_accepted {s : State} {c : CanisterId} (h : s.driveAnswer c = .accepted) :
    (s.drive (manifoldOf c)).state = .idle := by
  unfold State.driveAnswer at h
  dsimp only at h
  split at h
  · cases h
  · split at h
    · cases h
    · cases h
    · cases h
    · assumption

theorem requestPick_cases (s : State) (j : Job) (m : Manifold) :
    s.requestPick j m = (s, []) ∨ ∃ d, Requests j m d ∧ (s.drive m).state = .idle ∧
      s.requestPick j m = (s.startRun j.tag d.code d.canister d.outstanding false, [requestedRoundRun s d]) := by
  unfold State.requestPick
  cases hd : s.pick j m with
  | none => exact .inl rfl
  | some d =>
    have hreq := pick_some hd
    dsimp only
    split
    · exact .inr ⟨d, hreq, by rw [← hreq.2.2]; exact driveAnswer_accepted ‹_›, rfl⟩
    · exact .inl rfl

/-- A state in which some runs of a round have been started: the drives at work are those of the round's runs. -/
structure Requested (s : State) (j : Job) (u : State) (l : List RoundRun) : Prop where
  bank : u.bank = s.bank
  orders : u.orders = s.orders
  station : u.station = s.station
  runs : ∀ m r, (u.drive m).state = .dosing r → ∃ d, Requests j m d ∧ r = requestedRun j d ∧ requestedRoundRun s d ∈ l
  listed : ∀ x ∈ l, ∃ d, Requests j (manifoldOf x.canister) d ∧ x = requestedRoundRun s d ∧
    (u.drive (manifoldOf x.canister)).state = .dosing (requestedRun j d)

theorem requested_none {s : State} (h : s.DosingOk) (hst : s.station.state ≠ .dosing) (j : Job) : Requested s j s [] where
  bank := rfl
  orders := rfl
  station := rfl
  runs m r hr := absurd hr (no_run h hst m r)
  listed x hx := by cases hx

theorem startRun_drive (s : State) (t : Tag) (code : Nat) (c : CanisterId) (n : Nat) (topUp : Bool) (m : Manifold) :
    ((s.startRun t code c n topUp).drive m).state = if m = manifoldOf c then
      .dosing { tag := t, code := code, canister := c, asked := n, topUp := topUp, pumped := 0 } else (s.drive m).state := by
  rw [State.startRun, State.setDrive_drive]
  split <;> rfl

theorem Requested.requestPick {s u : State} {j : Job} {l : List RoundRun} (h : Requested s j u l) (m : Manifold) :
    Requested s j (u.requestPick j m).1 (l ++ (u.requestPick j m).2) := by
  rcases requestPick_cases u j m with hnone | ⟨d, hd, hidle, hsome⟩
  · rw [hnone, List.append_nil]
    exact h
  · have hdensity : requestedRoundRun u d = requestedRoundRun s d := by simp only [requestedRoundRun, canister_congr h.bank]
    rw [hsome, hdensity]
    exact
      { bank := by rw [State.startRun, State.setDrive_bank, h.bank]
        orders := by rw [State.startRun, State.setDrive_orders, h.orders]
        station := by rw [State.startRun, State.setDrive_station, h.station]
        runs := fun n r hr => by
          rw [startRun_drive, hd.2.2] at hr
          by_cases hn : n = m
          · rw [if_pos hn] at hr
            injection hr with hr
            exact ⟨d, hn ▸ hd, hr.symm, by simp⟩
          · rw [if_neg hn] at hr
            obtain ⟨e, he, hre, hmem⟩ := h.runs n r hr
            exact ⟨e, he, hre, List.mem_append_left _ hmem⟩
        listed := fun x hx => by
          rcases List.mem_append.1 hx with hx | hx
          · obtain ⟨e, he, hxe, hrun⟩ := h.listed x hx
            have hne : manifoldOf x.canister ≠ m := fun hm => by rw [hm, hidle] at hrun; cases hrun
            exact ⟨e, he, hxe, by rw [startRun_drive, hd.2.2, if_neg hne]; exact hrun⟩
          · obtain rfl := List.mem_singleton.1 hx
            have hm : manifoldOf (requestedRoundRun s d).canister = m := hd.2.2
            rw [hm]
            exact ⟨d, hd, rfl, by rw [startRun_drive, if_pos hd.2.2.symm]; rfl⟩ }

/-- A round that starts: its runs are in progress, short of their steps, covered where they are top-ups. -/
structure RoundStarts (s t : State) (q : Round) : Prop where
  bank : t.bank = s.bank
  jobs : t.orders.jobs = s.orders.jobs
  notDosing : s.station.state ≠ .dosing
  notLeaving : s.station.state ≠ .discharging ∧ s.station.state ≠ .held
  state : t.station.state = .dosing
  job : t.station.job = s.station.job
  round : t.station.round = some q
  densities : ∀ x ∈ q.runs, 0 < x.density
  runs : ∀ m r, (t.drive m).state = .dosing r → manifoldOf r.canister = m ∧ r.pumped < r.asked ∧
    (∃ x ∈ q.runs, x.canister = r.canister ∧ x.ended = none) ∧
    (r.topUp = true → ((s.canister r.canister).state = .ready ∨ (s.canister r.canister).state = .low) ∧
      (s.canister r.canister).reserved + r.asked ≤ (s.canister r.canister).usable)

theorem RoundStarts.dosingOk {s t : State} {q : Round} (e : RoundStarts s t q) (h : s.DosingOk) : t.DosingOk where
  covered c hc := by
    rw [canister_congr e.bank] at hc ⊢
    have hcov := h.covered c hc
    by_cases hrun : ∃ r, (t.drive (manifoldOf c)).state = .dosing r ∧ r.canister = c ∧ r.topUp = true
    · obtain ⟨r, hr, rfl, htop⟩ := hrun
      rw [topUpAsked_of_run hr rfl, if_pos htop]
      exact ((e.runs _ r hr).2.2.2 htop).2
    · rw [topUpAsked_eq_zero (fun r hr hrc => Bool.eq_false_iff.2 (fun htop => hrun ⟨r, hr, hrc, htop⟩))]
      omega
  runs m r hr := by
    obtain ⟨hm, hpumped, hx, htop⟩ := e.runs m r hr
    refine ⟨hm, hpumped, e.state, fun ht => ?_, q, e.round, hx⟩
    rw [canister_congr e.bank]
    exact (htop ht).1
  densities p hp := by
    obtain rfl : q = p := Option.some.inj (e.round.symm.trans hp)
    exact e.densities
  topUp f _ := .inl e.state
  job tag ht _ _ := by
    rw [e.job] at ht
    rw [e.jobs]
    exact h.job tag ht e.notLeaving.1 e.notLeaving.2

/-- What ties the runs of a round that starts to the doses of the job at the station. -/
theorem RoundStarts.reservedOk {s t : State} {q : Round} (e : RoundStarts s t q)
    (hdose : ∀ m r, (t.drive m).state = .dosing r →
      s.station.job = some r.tag ∧ s.hasDose r.code r.canister (if r.topUp then 0 else r.asked))
    (hlisted : q.topUp = false → ∀ x ∈ q.runs, x.ended = none ∧ ∃ r, (t.drive (manifoldOf x.canister)).state = .dosing r ∧
      r.canister = x.canister ∧ r.code = x.code ∧ r.asked = x.asked ∧ r.topUp = false)
    (h : s.ReservedOk) : t.ReservedOk where
  reserved c := by
    rw [canister_congr e.bank, State.outstandingOn, e.jobs]
    exact h.reserved c
  codes := by rw [e.jobs]; exact h.codes
  runs m r hr := by
    simp only [State.hasDose, e.jobs, e.job]
    exact hdose m r hr
  round p hp htop _ x hx := by
    obtain rfl : q = p := Option.some.inj (e.round.symm.trans hp)
    obtain ⟨hnone, hrun⟩ := hlisted htop x hx
    exact ⟨fun _ => hrun, fun y hy => by rw [hnone] at hy; cases hy⟩
  due f _ hst := by rw [e.state] at hst; cases hst

theorem accounts_formRound {s : State} (h : AtBoundary s) {j : Job} (hlive : s.stationJob = some j) :
    Accounts s (s.formRound j) := by
  refine Accounts.of_sound (keeps_formRound s j) (fun hs => ?_)
  have hk := keeps_formRound s j
  have hreq := ((requested_none hs.dosing h.notDosing j).requestPick .a).requestPick .b
  rw [List.nil_append] at hreq
  unfold State.formRound at hk ⊢
  dsimp only at hk ⊢
  split
  · exact accounts_station_at_boundary h _ rfl (.inl rfl) rfl (by simp) (by simp)
  · obtain ⟨hjob, hj, hjd⟩ : s.station.job = some j.tag ∧ j ∈ s.orders.jobs ∧ j.state = .dosing := by
      obtain ⟨hj, hjob, -⟩ := stationJob_some hlive
      exact ⟨hjob, hj, dosing_of_attends hs ⟨hjob, h.notLeaving⟩ hj rfl⟩
    generalize (s.requestPick j .a).2 ++ ((s.requestPick j .a).1.requestPick j .b).2 = l at hreq
    generalize ((s.requestPick j .a).1.requestPick j .b).1 = u at hreq hk
    have e : RoundStarts s { u with station := { u.station with
        state := .dosing, round := some { runs := l, topUp := false, interrupted := false } } }
        { runs := l, topUp := false, interrupted := false } :=
      { bank := hreq.bank
        jobs := congrArg _ hreq.orders
        notDosing := h.notDosing
        notLeaving := h.notLeaving
        state := rfl
        job := congrArg Station.job (a₁ := u.station) hreq.station
        round := rfl
        densities := fun x hx => by
          obtain ⟨d, -, rfl, -⟩ := hreq.listed x hx
          have hrange := hs.bank d.canister
          exact lt_of_lt_of_le (by decide) hrange.2.1
        runs := fun m r hr => by
          obtain ⟨d, hd, rfl, hmem⟩ := hreq.runs m r hr
          exact ⟨hd.2.2, hd.2.1, ⟨_, hmem, rfl, rfl⟩, fun htop => by cases htop⟩ }
    exact
      { bank := BankDrawn.of_bank hreq.bank
        tags := fun hn => by rw [e.jobs]; exact hn
        dosing := fun _ => e.dosingOk hs.dosing
        reserved := fun _ hr => e.reservedOk
          (fun m r hr => by
            obtain ⟨d, hd, rfl, -⟩ := hreq.runs m r hr
            exact ⟨hjob, j, hj, hjob, hjd, d, hd.1, rfl, rfl, rfl⟩)
          (fun _ x hx => by
            obtain ⟨d, -, rfl, hrun⟩ := hreq.listed x hx
            exact ⟨rfl, _, hrun, rfl, rfl, rfl, rfl⟩) hr }

/-- The decisions of a round boundary (R90). -/
theorem accounts_boundary {s : State} (h : AtBoundary s) : Accounts s s.boundary := by
  unfold State.boundary
  split
  · exact Accounts.refl s
  · rename_i t ht
    split
    · exact Accounts.refl s
    · rename_i j hlive
      obtain ⟨hj, rfl, -⟩ := liveJob_some hlive
      split
      · exact accounts_startReject h
      · split
        · rename_i hdone
          exact accounts_becomeDosed h hj (fun d hd => beq_iff_eq.1 (List.all_eq_true.1 hdone d hd))
        · split
          · exact accounts_startPark h _ _
          · split
            · split
              · exact accounts_startPark h _ _
              · exact accounts_block h _
            · exact accounts_formRound h (by rw [State.stationJob, ht]; exact hlive)

end Sys2Proof.ColourantBank
end

section
/-! PROOFS. The judgement of a round and the top-up that it may ask for keep the bank's account (R37, R97, R98, R99). -/
namespace Sys2Proof.ColourantBank

open Sys2Proof Sys2Proof.Machine
open Sys2Proof.DoseCalculation (inService_iff verdictOf_iff topUpFor_eq_some_iff topUpSteps_le_iff)

/-! ## Verdicts (R60, R61, R97) -/

theorem toCheck_serving {k : Canister} (h : k.toCheck.state = .ready ∨ k.toCheck.state = .low) : False := by
  unfold Canister.toCheck at h
  split at h
  · simp at h
  · simp at h
  · simp at h
  · rename_i hcheck
    simp [hcheck] at h
  · rename_i hoff
    simp [hoff] at h

theorem toCheck_reserved (k : Canister) : k.toCheck.reserved = k.reserved := by
  unfold Canister.toCheck
  split <;> rfl

/-- A verdict comes while no run is in progress, so that no top-up run loses its canister (R96). -/
theorem accounts_verdictNotice {s : State} (h : s.station.state ≠ .dosing) (c : CanisterId) (v : DoseVerdict) :
    Accounts s (s.verdictNotice c v) := by
  refine Accounts.of_sound (keeps_verdictNotice s c v) (fun hs => ?_)
  have hno : ∀ r, (s.drive (manifoldOf c)).state = .dosing r → r.canister = c → r.topUp = false :=
    fun r hr => absurd hr (no_run hs.dosing h _ r)
  have hmiss : Drawn (s.canister c) { s.canister c with missCount := missAfter (s.canister c).missCount v } :=
    ⟨rfl, rfl, rfl, le_rfl, missAfter_le _ _⟩
  unfold State.verdictNotice
  dsimp only
  split
  · exact Accounts.trans (accounts_setCanister_idle (hmiss.trans (Drawn.of_eased (Canister.toCheck_eased _))) (fun _ => hno)
      (fun hk => (toCheck_serving hk).elim) (toCheck_reserved _)) (accounts_of_eq rfl rfl rfl rfl)
  · exact accounts_setCanister_same hmiss rfl rfl rfl

/-- A state with another station record. -/
def withStation (s : State) (x : Station) : State := { s with station := x }

/-- The notices of a list of doses, one after the other. -/
def notices (v : DoseVerdict) (l : List (Nat × CanisterId)) (s : State) : State := l.foldl (fun k x => k.verdictNotice x.2 v) s

theorem verdictNotice_withStation (s : State) (x : Station) (c : CanisterId) (v : DoseVerdict) :
    (withStation s x).verdictNotice c v = withStation (s.verdictNotice c v) x := by
  have hc : (withStation s x).canister c = s.canister c := rfl
  unfold State.verdictNotice
  rw [hc]
  dsimp only
  split <;> rfl

theorem notices_withStation (v : DoseVerdict) (l : List (Nat × CanisterId)) (s : State) (x : Station) :
    notices v l (withStation s x) = withStation (notices v l s) x := by
  induction l generalizing s with
  | nil => rfl
  | cons a l ih =>
    simp only [notices, List.foldl_cons] at ih ⊢
    rw [verdictNotice_withStation, ih]

theorem notices_station (v : DoseVerdict) (l : List (Nat × CanisterId)) (s : State) : (notices v l s).station = s.station := by
  have h := congrArg State.station (notices_withStation v l s s.station)
  exact h

theorem accounts_notices {s : State} (h : s.station.state ≠ .dosing) (v : DoseVerdict) (l : List (Nat × CanisterId)) :
    Accounts s (notices v l s) := by
  induction l generalizing s with
  | nil => exact Accounts.refl s
  | cons a l ih =>
    have hst : (s.verdictNotice a.2 v).station = s.station := notices_station v [a] s
    exact (accounts_verdictNotice h a.2 v).trans (ih (by rw [hst]; exact h))

/-- The change of the job at the station, if there is one. -/
def updateStationJob (s : State) (f : Job → Job) : State :=
  match s.station.job with
  | none => s
  | some t => s.updateLive t f

theorem updateStationJob_withStation (s : State) (f : Job → Job) {x : Station} (h : x.job = s.station.job) :
    updateStationJob (withStation s x) f = withStation (updateStationJob s f) x := by
  have hjob : (withStation s x).station.job = s.station.job := h
  unfold updateStationJob
  rw [hjob]
  split <;> rfl

theorem updateStationJob_station (s : State) (f : Job → Job) : (updateStationJob s f).station = s.station := by
  unfold updateStationJob
  split <;> rfl

theorem accounts_updateStationJob {s : State} {f : Job → Job} (htag : ∀ j, (f j).tag = j.tag) (hstate : ∀ j, (f j).state = j.state)
    (hdoses : ∀ j, SameDoses j (f j)) (hfree : s.station.firstRound = none ∨ s.station.state ≠ .waitDrive) :
    Accounts s (updateStationJob s f) := by
  unfold updateStationJob
  split
  · exact Accounts.refl s
  · exact (liveChange_of_sameDoses htag hstate hdoses (hfree.imp_right .inl)).accounts
      (fun j _ _ => (hdoses j).outstandingOn (by rw [hstate]))

/-- The record of a job with a verdict on some of its doses (R97). -/
def judged (v : DoseVerdict) (l : List (Nat × CanisterId)) (j : Job) : Job :=
  { l.foldl (fun (k : Job) x => k.mapDose x.1 (fun d => { d with verdict := v })) j with
    verdict := if v.bad then .outOfTol else j.verdict }

theorem foldl_mapDose_state (l : List (Nat × CanisterId)) (f : Dose → Dose) (j : Job) :
    (l.foldl (fun (k : Job) x => k.mapDose x.1 f) j).state = j.state := by
  induction l generalizing j with
  | nil => rfl
  | cons a l ih => exact ih (j.mapDose a.1 f)

theorem sameDoses_foldl_mapDose (l : List (Nat × CanisterId)) (v : DoseVerdict) (j : Job) :
    SameDoses j (l.foldl (fun (k : Job) x => k.mapDose x.1 (fun d => { d with verdict := v })) j) := by
  induction l generalizing j with
  | nil => exact SameDoses.of_eq rfl
  | cons a l ih =>
    exact (sameDoses_mapDose j a.1 (fun d => { d with verdict := v }) (fun _ => ⟨rfl, rfl, rfl⟩)).trans (ih _)

theorem accounts_judgedJob {s : State} (h : s.station.firstRound = none) (v : DoseVerdict) (l : List (Nat × CanisterId)) :
    Accounts s (updateStationJob s (judged v l)) :=
  accounts_updateStationJob (fun j => tag_foldl_mapDose l _ j) (fun j => foldl_mapDose_state l _ j)
    (fun j => sameDoses_foldl_mapDose l v j) (.inl h)

theorem recordVerdict_eq (s : State) (v : DoseVerdict) (l : List (Nat × CanisterId)) :
    s.recordVerdict v l = withStation (notices v l (updateStationJob s (judged v l)))
      { s.station with round := none, firstRound := none } := by
  have hst : (notices v l (updateStationJob s (judged v l))).station = s.station := by
    rw [notices_station, updateStationJob_station]
  rw [← hst]
  unfold State.recordVerdict updateStationJob
  rfl

/-- A station that has a round to judge or a top-up due: neither in a round nor on its way out. -/
structure Settled (s : State) : Prop where
  notDosing : s.station.state ≠ .dosing
  notLeaving : s.station.state ≠ .discharging ∧ s.station.state ≠ .held

theorem settled_of_waitDrive {s : State} (h : s.station.state = .waitDrive) : Settled s := by
  constructor <;> simp [h]

theorem settled_of_weighing {s : State} {p : SettleFor} (h : s.station.state = .weighing p) : Settled s := by
  constructor <;> simp [h]

/-- The station, its job kept, gives up its round and its first-round figures. -/
theorem accounts_clearRound {s : State} (h : Settled s) (x : Station) (hjob : x.job = s.station.job) (hround : x.round = none)
    (hfirst : x.firstRound = none) (hstate : x.state = s.station.state ∨ x.state = .waitDrive) :
    Accounts s { s with station := x } :=
  Accounts.of_sound (keeps_station s x) (fun hs => Rests.accounts
    { bank := rfl, jobs := rfl, run := fun _ => rfl, before := h.notDosing
      after := by rcases hstate with e | e <;> simp [e, h.notDosing]
      first := hfirst, round := .inl hround
      job := fun tag ht _ _ => hs.dosing.job tag (hjob ▸ ht) h.notLeaving.1 h.notLeaving.2 })

theorem accounts_recordVerdict {s : State} (h : Settled s) (v : DoseVerdict) (l : List (Nat × CanisterId)) :
    Accounts s (s.recordVerdict v l) := by
  rw [recordVerdict_eq, ← notices_withStation,
    ← updateStationJob_withStation s _ (x := { s.station with round := none, firstRound := none }) rfl]
  refine (accounts_clearRound h { s.station with round := none, firstRound := none } rfl rfl rfl (.inl rfl)).trans ?_
  refine (accounts_judgedJob rfl v l).trans (accounts_notices ?_ v l)
  rw [updateStationJob_station]
  exact h.notDosing

theorem recordVerdict_station (s : State) (v : DoseVerdict) (l : List (Nat × CanisterId)) :
    (s.recordVerdict v l).station = { s.station with round := none, firstRound := none } := by
  rw [recordVerdict_eq]
  rfl

theorem atBoundary_recordVerdict {s : State} (h : Settled s) (v : DoseVerdict) (l : List (Nat × CanisterId)) :
    AtBoundary (s.recordVerdict v l) := by
  constructor <;> rw [recordVerdict_station]
  · exact h.notDosing
  · exact h.notLeaving

/-! ## Top-ups (R98, R99) -/

/-- A job with top-up steps written for a colourant code (R98). -/
def toppedUp (code n : Nat) (j : Job) : Job := j.mapDose code (fun d => { d with topUp := n })

theorem setTopUp_eq (s : State) (code n : Nat) : s.setTopUp code n = updateStationJob s (toppedUp code n) := rfl

theorem sameDoses_toppedUp (code n : Nat) (j : Job) : SameDoses j (toppedUp code n j) :=
  sameDoses_mapDose j code _ (fun _ => ⟨rfl, rfl, rfl⟩)

/-- The station as it abandons a top-up (R99). -/
def givenUp (s : State) : Station := { s.station with state := .waitDrive, round := none, firstRound := none }

theorem abandonTopUp_eq (s : State) (f : FirstRound) :
    s.abandonTopUp f = withStation (notices .under [(f.code, f.canister)]
      (updateStationJob (updateStationJob s (toppedUp f.code 0)) (judged .under [(f.code, f.canister)]))) (givenUp s) := by
  have hst : (updateStationJob s (toppedUp f.code 0)).station = s.station := updateStationJob_station s _
  rw [State.abandonTopUp, setTopUp_eq, recordVerdict_eq, hst]
  rfl

theorem abandonTopUp_station (s : State) (f : FirstRound) : (s.abandonTopUp f).station = givenUp s := by
  rw [abandonTopUp_eq]
  rfl

theorem atBoundary_abandonTopUp (s : State) (f : FirstRound) : AtBoundary (s.abandonTopUp f) := by
  constructor <;> simp [abandonTopUp_station, givenUp]

theorem accounts_abandonTopUp {s : State} (h : Settled s) (f : FirstRound) : Accounts s (s.abandonTopUp f) := by
  have hjob : (givenUp s).job = (updateStationJob s (toppedUp f.code 0)).station.job := by rw [updateStationJob_station]; rfl
  rw [abandonTopUp_eq, ← notices_withStation, ← updateStationJob_withStation _ _ hjob,
    ← updateStationJob_withStation s _ (x := givenUp s) rfl]
  have h0 : Accounts s (withStation s (givenUp s)) := accounts_clearRound h _ rfl rfl rfl (.inr rfl)
  have h1 : Accounts (withStation s (givenUp s)) (updateStationJob (withStation s (givenUp s)) (toppedUp f.code 0)) :=
    accounts_updateStationJob (fun _ => rfl) (fun _ => rfl) (sameDoses_toppedUp f.code 0) (.inl rfl)
  have hst : (updateStationJob (withStation s (givenUp s)) (toppedUp f.code 0)).station = givenUp s := updateStationJob_station _ _
  refine ((h0.trans h1).trans (accounts_judgedJob (by rw [hst]; rfl) _ _)).trans (accounts_notices ?_ _ _)
  rw [updateStationJob_station, hst]
  simp [givenUp]

/-- The dose of the first-round figures is one of the job at the station and has its top-up steps (R98). -/
def TopUpDue (s : State) (f : FirstRound) : Prop :=
  ∃ j ∈ s.orders.jobs, s.station.job = some j.tag ∧ j.state = .dosing ∧
    (∃ d ∈ j.doses, d.code = f.code) ∧ ∀ d ∈ j.doses, d.code = f.code → 0 < d.topUp

theorem stationJob_eq {s : State} (hn : (s.orders.jobs.map (·.tag)).Nodup) {j : Job} (hj : j ∈ s.orders.jobs)
    (hjob : s.station.job = some j.tag) (hunf : j.finished = false) : s.stationJob = some j := by
  have hlive : s.liveJob j.tag = some j := by
    cases h : s.liveJob j.tag with
    | none =>
      have := List.find?_eq_none.1 h j hj
      exact absurd ((live_iff j j.tag).2 ⟨rfl, hunf⟩) this
    | some k =>
      obtain ⟨hk, hkt, -⟩ := liveJob_some h
      rw [job_eq_of_tag hn hk hj hkt]
  rw [State.stationJob, hjob]
  exact hlive

theorem topUpDue_pos {s : State} (hn : (s.orders.jobs.map (·.tag)).Nodup) {f : FirstRound} (h : TopUpDue s f) : 0 < s.topUpDue f := by
  obtain ⟨j, hj, hjob, hjd, ⟨d, hd, hdc⟩, hpos⟩ := h
  rw [State.topUpDue, stationJob_eq hn hj hjob (finished_of_dosing hjd)]
  dsimp only
  cases hfind : j.doses.find? (fun d => d.code == f.code) with
  | none => exact absurd hdc (by simpa using List.find?_eq_none.1 hfind d hd)
  | some e => exact hpos e (List.mem_of_find?_eq_some hfind) (by simpa using List.find?_some hfind)

/-- The steps of a top-up that pass the free cap are covered besides the reserved steps (R43, R99). -/
theorem covered_of_le_free {s : State} {c : CanisterId} {n : Nat} (hn : 0 < n) (h : n ≤ s.free c) :
    ((s.canister c).state = .ready ∨ (s.canister c).state = .low) ∧ (s.canister c).reserved + n ≤ (s.canister c).usable := by
  rw [free_eq] at h
  split at h
  · exact ⟨‹_›, by omega⟩
  · omega

/-- The top-up run that an accepted request starts, and its round (R99). -/
theorem roundStarts_topUp {s : State} (h : Settled s) (hs : Sound s) {f : FirstRound} (hdue : TopUpDue s f)
    (hfree : s.topUpDue f ≤ s.free f.canister) (t : Tag) (x : Station) (q : Round) (hst : x.state = .dosing)
    (hjob : x.job = s.station.job) (hround : x.round = some q)
    (hq : q.runs = [{ code := f.code, canister := f.canister, asked := s.topUpDue f,
                      density := (s.canister f.canister).density, ended := none }]) :
    RoundStarts s { s.startRun t f.code f.canister (s.topUpDue f) true with station := x } q where
  bank := State.setDrive_bank _ _ _
  jobs := congrArg _ (State.setDrive_orders _ _ _)
  notDosing := h.notDosing
  notLeaving := h.notLeaving
  state := hst
  job := hjob
  round := hround
  densities y hy := by
    rw [hq] at hy
    obtain rfl := List.mem_singleton.1 hy
    exact lt_of_lt_of_le (by decide) (hs.bank f.canister).2.1
  runs m r hr := by
    have hr' : ((s.startRun t f.code f.canister (s.topUpDue f) true).drive m).state = .dosing r := hr
    rw [startRun_drive] at hr'
    split at hr'
    · injection hr' with hr'
      subst hr'
      have hpos := topUpDue_pos hs.tags hdue
      exact ⟨‹m = _›.symm, hpos, ⟨_, by rw [hq]; exact List.mem_singleton.2 rfl, rfl, rfl⟩, fun _ => covered_of_le_free hpos hfree⟩
    · exact absurd hr' (no_run hs.dosing h.notDosing m r)

/-- A top-up due waits for its drive (R99). -/
theorem waitTopUp_agrees {s : State} (h : Settled s) (hs : Sound s) {f : FirstRound} (hf : s.station.firstRound = some f)
    (hdue : TopUpDue s f) :
    (withStation s { s.station with state := .waitDrive }).DosingOk ∧
      (s.ReservedOk → s.hasDose f.code f.canister 0 → (withStation s { s.station with state := .waitDrive }).ReservedOk) := by
  refine ⟨?_, fun hr hdose => ?_⟩
  · exact
      { covered := hs.dosing.covered
        runs := fun m r hr => absurd hr (no_run hs.dosing h.notDosing m r)
        densities := hs.dosing.densities
        topUp := fun g hg => by
          obtain rfl : f = g := Option.some.inj (hf.symm.trans hg)
          exact .inr (.inr ⟨rfl, hdue⟩)
        job := fun t ht _ _ => hs.dosing.job t ht h.notLeaving.1 h.notLeaving.2 }
  · exact
      { reserved := hr.reserved
        codes := hr.codes
        runs := fun m r hrun => absurd hrun (no_run hs.dosing h.notDosing m r)
        round := fun q _ _ hst => by rcases hst with hst | hst <;> cases hst
        due := fun g hg _ => by
          obtain rfl : f = g := Option.some.inj (hf.symm.trans hg)
          exact hdose }

/-- The top-up request, by the free cap and the drive's answer (R99). -/
theorem requestTopUp_agrees {s : State} (h : Settled s) (hs : Sound s) {f : FirstRound} (hf : s.station.firstRound = some f)
    (hdue : TopUpDue s f) :
    (s.requestTopUp f).DosingOk ∧ (s.ReservedOk → s.hasDose f.code f.canister 0 → (s.requestTopUp f).ReservedOk) := by
  have habandon : (s.abandonTopUp f).boundary.DosingOk ∧
      (s.ReservedOk → s.hasDose f.code f.canister 0 → (s.abandonTopUp f).boundary.ReservedOk) :=
    have e : Accounts s (s.abandonTopUp f).boundary :=
      (accounts_abandonTopUp h f).trans (accounts_boundary (atBoundary_abandonTopUp s f))
    ⟨e.dosing hs, fun hr _ => e.reserved hs hr⟩
  unfold State.requestTopUp
  dsimp only
  split
  · rename_i hfree
    split
    · have e := roundStarts_topUp h hs hdue hfree (s.station.job.getD 0)
        { (s.startRun (s.station.job.getD 0) f.code f.canister (s.topUpDue f) true).station with
          state := .dosing
          round := some { runs := [{ code := f.code, canister := f.canister, asked := s.topUpDue f,
                                     density := (s.canister f.canister).density, ended := none }],
                          topUp := true, interrupted := false } } _ rfl
        (by rw [State.startRun, State.setDrive_station]) rfl rfl
      refine ⟨e.dosingOk hs.dosing, fun hr hdose => e.reservedOk (fun m r hrun => ?_) (fun htop => by cases htop) hr⟩
      have hrun' : ((s.startRun (s.station.job.getD 0) f.code f.canister (s.topUpDue f) true).drive m).state = .dosing r := hrun
      rw [startRun_drive] at hrun'
      split at hrun'
      · injection hrun' with hrun'
        subst hrun'
        obtain ⟨j, -, hjob, -⟩ := hdue
        exact ⟨by rw [hjob]; rfl, hdose⟩
      · exact absurd hrun' (no_run hs.dosing h.notDosing m r)
    · exact waitTopUp_agrees h hs hf hdue
    · exact habandon
    · exact habandon
    · exact habandon
  · exact habandon

/-- A top-up due in WAIT_DRIVE (R99). -/
theorem accounts_topUpWait {s : State} (hst : s.station.state = .waitDrive) {f : FirstRound} (hf : s.station.firstRound = some f) :
    Accounts s (s.topUpWait f) := by
  have h := settled_of_waitDrive hst
  have hdue : Sound s → TopUpDue s f := fun hs => by
    rcases hs.dosing.topUp f hf with hst' | hst' | ⟨-, hdue⟩
    · exact absurd hst' h.notDosing
    · rw [hst] at hst'; cases hst'
    · exact hdue
  unfold State.topUpWait
  dsimp only
  split
  · exact (accounts_abandonTopUp h f).trans (accounts_boundary (atBoundary_abandonTopUp s f))
  · split
    · exact Accounts.of_keeps (keeps_requestTopUp s f) (fun hs => (requestTopUp_agrees h hs hf (hdue hs)).1)
        (fun hs hr => (requestTopUp_agrees h hs hf (hdue hs)).2 hr (hr.due f hf hst))
    · exact Accounts.refl s

/-! ## Judging a round (R96, R97, R98) -/

theorem topUpSteps_pos {deficit d : Nat} (hdef : 0 < deficit) (hd : 0 < d) : 0 < topUpSteps deficit d := by
  by_contra h
  have := (topUpSteps_le_iff deficit hd 0).1 (by omega)
  omega

/-- An UNDER measure leaves a deficit (R36). -/
theorem deficit_pos {measured : Int} {e tol : Nat} (h : verdictOf measured e tol = .under) : 0 < ((e : Int) - measured).toNat := by
  unfold verdictOf at h
  split at h
  · omega
  · split at h <;> cases h

/-- The station's record with the figures of a round to be topped up (R98). -/
def keptFigures (s : State) (f : FirstRound) : Station := { s.station with round := none, firstRound := some f }

theorem accounts_keptFigures {s : State} (h : s.station.state = .weighing .round) (f : FirstRound) :
    Accounts s (withStation s (keptFigures s f)) where
  bank := BankDrawn.refl s
  tags := id
  dosing hs :=
    { covered := hs.dosing.covered
      runs := fun m r hr => absurd hr (no_run hs.dosing (settled_of_weighing h).notDosing m r)
      densities := fun q hq => by cases hq
      topUp := fun g _ => .inr (.inl h)
      job := hs.dosing.job }
  reserved hs hr :=
    { reserved := hr.reserved
      codes := hr.codes
      runs := fun m r hrun => absurd hrun (no_run hs.dosing (settled_of_weighing h).notDosing m r)
      round := fun q hq => by cases hq
      due := fun g _ hst => by
        have hst' : s.station.state = .waitDrive := hst
        rw [h] at hst'
        cases hst' }

/-- The state in which a top-up of `n` steps is set and the figures of the judged round are kept (R98). -/
def figuresKept (s : State) (code n : Nat) (f : FirstRound) : State :=
  withStation (s.setTopUp code n) (keptFigures (s.setTopUp code n) f)

section
variable {s : State} {code n : Nat} {f : FirstRound} {j : Job}

theorem setTopUp_of_stationJob (h : s.stationJob = some j) : s.setTopUp code n = s.updateLive j.tag (toppedUp code n) := by
  obtain ⟨-, hjob, -⟩ := stationJob_some h
  unfold State.setTopUp
  rw [hjob]
  rfl

theorem setTopUp_weighing (hst : s.station.state = .weighing .round) : (s.setTopUp code n).station.state = .weighing .round := by
  rw [State.setTopUp_station]
  exact hst

theorem settled_figuresKept (hst : s.station.state = .weighing .round) : Settled (figuresKept s code n f) :=
  settled_of_weighing (setTopUp_weighing hst)

theorem accounts_figuresKept (hst : s.station.state = .weighing .round) : Accounts s (figuresKept s code n f) := by
  have hset : Accounts s (s.setTopUp code n) := by
    rw [setTopUp_eq]
    exact accounts_updateStationJob (fun _ => rfl) (fun _ => rfl) (sameDoses_toppedUp _ _) (.inr (by simp [hst]))
  exact hset.trans (accounts_keptFigures (setTopUp_weighing hst) f)

/-- The dose of the kept figures is due its top-up steps (R99). -/
theorem topUpDue_figuresKept (hst : s.station.state = .weighing .round) (hlive : s.stationJob = some j) (hs : Sound s)
    (hcode : f.code = code) (hdose : ∃ d ∈ j.doses, d.code = code) (hpos : 0 < n) : TopUpDue (figuresKept s code n f) f := by
  obtain ⟨hmem, hjob, hunf⟩ := stationJob_some hlive
  have hset := setTopUp_of_stationJob (code := code) (n := n) hlive
  have hdosing : j.state = .dosing := dosing_of_attends hs ⟨hjob, (settled_of_weighing hst).notLeaving⟩ hmem rfl
  have htopped : toppedUp code n j ∈ (s.setTopUp code n).orders.jobs := by
    rw [hset]
    exact List.mem_map.2 ⟨j, hmem, if_pos ((live_iff j j.tag).2 ⟨rfl, hunf⟩)⟩
  have hstation : (s.setTopUp code n).station.job = some j.tag := by rw [State.setTopUp_station, hjob]
  obtain ⟨d, hd, hdc⟩ := hdose
  refine ⟨toppedUp code n j, htopped, hstation, hdosing, ⟨_, List.mem_map_of_mem hd, ?_⟩, fun e he hec => ?_⟩
  · split <;> exact hdc.trans hcode.symm
  · obtain ⟨e', -, rfl⟩ := List.mem_map.1 he
    by_cases hc : e'.code = code
    · simpa [hc] using hpos
    · rw [if_neg hc] at hec
      exact absurd (hec.trans hcode) hc

/-- Setting the top-up steps leaves the outstanding steps of every dose. -/
theorem hasDose_figuresKept (hst : s.station.state = .weighing .round) (hlive : s.stationJob = some j) {e m : Nat} {c : CanisterId}
    (h : s.hasDose e c m) : (figuresKept s code n f).hasDose e c m := by
  have hchange : LiveChange s j.tag (toppedUp code n) :=
    liveChange_of_sameDoses (fun _ => rfl) (fun _ => rfl) (sameDoses_toppedUp _ _) (.inr (.inl (by simp [hst])))
  obtain ⟨hdis, hheld⟩ := (settled_of_weighing hst).notLeaving
  have hset : (s.setTopUp code n).hasDose e c m := by
    rw [setTopUp_of_stationJob hlive]
    exact hchange.hasDose hdis hheld h
  exact hset

end

/-- The top-up that a judged round is allowed: its dose is the round's, short of no step, and takes the steps of the deficit (R37, R98). -/
theorem accounts_topUpAllowed {s : State} (hst : s.station.state = .weighing .round) {r : Round} (hround : s.station.round = some r)
    (hr : r.topUp = false) {deficit n : Nat} {run : RoundRun} (hdef : 0 < deficit) (h : s.topUpFor r deficit = some (run, n))
    {f : FirstRound} (hcode : f.code = run.code) (hcan : f.canister = run.canister) :
    Accounts s ((figuresKept s run.code n f).requestTopUp f) := by
  obtain ⟨hruns, hended, hn, -, -, -, j, hlive, -, d, hd, hdc, -⟩ := (topUpFor_eq_some_iff s r deficit run n).1 h
  have hrun : run ∈ r.runs := by rw [hruns]; exact List.mem_singleton.2 rfl
  have hkept : Accounts s (figuresKept s run.code n f) := accounts_figuresKept hst
  have hagrees := fun hs : Sound s => requestTopUp_agrees (settled_figuresKept hst) (hkept.sound hs) rfl
    (topUpDue_figuresKept hst hlive hs hcode ⟨d, hd, hdc⟩ (hn ▸ topUpSteps_pos hdef (hs.dosing.densities r hround run hrun)))
  refine Accounts.of_keeps ((keeps_setTopUp s _ _).trans ((keeps_station _ _).trans (keeps_requestTopUp _ _)))
    (fun hs => (hagrees hs).1) (fun hs hres => (hagrees hs).2 (hkept.reserved hs hres) ?_)
  obtain ⟨-, hfull⟩ := hres.round r hround hr (.inr hst) run hrun
  rw [hcode, hcan]
  exact hasDose_figuresKept hst hlive (hfull _ hended rfl)

theorem accounts_judge {s : State} (hst : s.station.state = .weighing .round) : Accounts s s.judge := by
  unfold State.judge
  split
  · exact Accounts.refl s
  · rename_i r hround
    extract_lets after measured x s1
    have h1 : Accounts s s1 := SameDosing.accounts ⟨rfl, rfl, fun _ => rfl, rfl, rfl, rfl, rfl⟩
    have hst1 : s1.station.state = .weighing .round := hst
    have hrecord : ∀ v l, Accounts s (s1.recordVerdict v l).boundary := fun v l =>
      (h1.trans (accounts_recordVerdict (settled_of_weighing hst1) v l)).trans
        (accounts_boundary (atBoundary_recordVerdict (settled_of_weighing hst1) v l))
    split
    · exact hrecord _ _
    · split
      · exact hrecord _ _
      · rename_i run n hallowed
        split at hallowed
        · rename_i hunder
          exact h1.trans (accounts_topUpAllowed hst1 hround hunder.2 (deficit_pos hunder.1) hallowed rfl rfl)
        · cases hallowed

end Sys2Proof.ColourantBank
end

section
/-! PROOFS. The selection, the mixers' and the press's notices, the changes of mode and the standing tests keep the bank's account. -/
namespace Sys2Proof.ColourantBank

open Sys2Proof Sys2Proof.Machine

/-! ## The station's selection (R86) -/

theorem selection_draw_queued {s : State} {j : Job} (h : s.selection = some (.draw j)) :
    j ∈ s.orders.jobs ∧ j.state = .queued := by
  have hq : ∃ c, s.rankQueued c = some j := by
    rcases selection_draw h with ⟨-, -, h3⟩ | ⟨-, -, -, -, h5⟩
    · exact ⟨_, h3⟩
    · exact ⟨_, h5⟩
  obtain ⟨c, hc⟩ := hq
  obtain ⟨hj, ⟨-, hdraw⟩, -⟩ := rankQueued_some hc
  simp only [State.drawable, State.ready, Bool.and_eq_true, isQueued_iff] at hdraw
  exact ⟨hj, hdraw.1.1⟩

theorem selection_unpark_parked {s : State} {j : Job} (h : s.selection = some (.unpark j)) :
    j ∈ s.orders.jobs ∧ j.isParked = true := by
  have hparked : ∀ c, s.rankParked c = some j → j ∈ s.orders.jobs ∧ j.isParked = true := fun c hc => by
    obtain ⟨hj, ⟨-, hprogress⟩, -⟩ := rankParked_some hc
    simp only [State.hasProgress, Bool.and_eq_true] at hprogress
    exact ⟨hj, hprogress.1.1⟩
  rcases selection_unpark h with h1 | ⟨-, h2⟩ | ⟨-, -, -, h4⟩
  · obtain ⟨hj, hret, -⟩ := rank1_some h1
    simp only [Job.toRetrieve, Bool.and_eq_true] at hret
    exact ⟨hj, hret.1⟩
  · exact hparked _ h2
  · exact hparked _ h4

/-- A station that takes a tin from EMPTY: its job has just become DOSING (R6, R7). -/
theorem accounts_takeJob {s : State} (hst : s.station.state = .empty) (w : WeighCell) (rack : Rack) {j : Job}
    (hj : j ∈ s.orders.jobs) (hd : j.state = .dosing) (y : StationState) (hy : y ≠ .dosing ∧ y ≠ .weighing .round) (tr : Transfer) :
    Accounts s { s with
      weigh := w, rack := rack, station := { s.station with state := y, job := some j.tag, transfer := some tr } } :=
  have e : Sound s → Rests s { s with
      weigh := w, rack := rack, station := { s.station with state := y, job := some j.tag, transfer := some tr } } := fun hs =>
    { bank := rfl, jobs := rfl, run := fun _ => rfl, before := by simp [hst], after := hy.1
      first := first_none (s := s) hs.dosing (by simp [hst]) (by simp [hst]) (by simp [hst])
      round := .inr ⟨rfl, hy.2⟩
      job := fun t ht _ _ => ⟨j, hj, Option.some.inj ht, hd⟩ }
  ⟨BankDrawn.refl s, id, fun hs => (e hs).dosingOk hs.dosing, fun hs => (e hs).reservedOk hs.dosing⟩

theorem accounts_tinsTo (s : State) (z : Size) (n : Nat) : Accounts s (s.tinsTo z n) := by
  unfold State.tinsTo
  dsimp only
  split <;> exact accounts_of_eq rfl rfl rfl rfl

theorem startDraw_eq (s : State) (j : Job) :
    s.startDraw j = State.drawTin { s.jobDrawn j.tag with
      weigh := { s.weigh with strayMs := none }
      rack := s.rack
      station := { s.station with state := .drawing, job := some j.tag, transfer := some .draw } } j.size := rfl

theorem accounts_startDraw {s : State} (hst : s.station.state = .empty) {j : Job} (hj : j ∈ s.orders.jobs) (hq : j.state = .queued) :
    Accounts s (s.startDraw j) := by
  rw [startDraw_eq]
  have hmem : { j with state := .dosing } ∈ (s.jobDrawn j.tag).orders.jobs := by
    refine List.mem_map.2 ⟨j, hj, ?_⟩
    exact (if_pos ((live_iff j j.tag).2 ⟨rfl, by simp [Job.finished, hq]⟩)).trans (if_pos (by rw [hq]; rfl))
  have hst' : (s.jobDrawn j.tag).station.state = .empty := hst
  exact ((accounts_jobDrawn s j.tag).trans (accounts_takeJob hst' _ _ hmem rfl _ (by simp) _)).trans
    (accounts_tinsTo _ _ _)

theorem startUnpark_eq {s : State} {j : Job} {i : ShelfId} (h : s.rack.shelfHolding j.tag = some i) :
    s.startUnpark j = { s.jobUnparked j.tag with
      weigh := { s.weigh with strayMs := none }
      rack := { s.rack with shelves := s.rack.shelves.set i.val (.claimedUnpark j.tag) i.isLt }
      station := { s.station with state := .unparking, job := some j.tag, transfer := some (.unpark i) } } := by
  simp only [State.startUnpark, h]
  rfl

theorem accounts_startUnpark {s : State} (hst : s.station.state = .empty) {j : Job} (hj : j ∈ s.orders.jobs)
    (hp : j.isParked = true) : Accounts s (s.startUnpark j) := by
  cases h : s.rack.shelfHolding j.tag with
  | none => simp only [State.startUnpark, h]; exact Accounts.refl s
  | some i =>
    rw [startUnpark_eq h]
    have hunf : j.finished = false := by
      obtain ⟨r, n, hstate⟩ := (isParked_iff j).1 hp
      simp [Job.finished, hstate]
    have hmem : { j with state := .dosing } ∈ (s.jobUnparked j.tag).orders.jobs := by
      refine List.mem_map.2 ⟨j, hj, ?_⟩
      exact (if_pos ((live_iff j j.tag).2 ⟨rfl, hunf⟩)).trans (if_pos hp)
    have hst' : (s.jobUnparked j.tag).station.state = .empty := hst
    exact (accounts_jobUnparked s j.tag).trans (accounts_takeJob hst' _ _ hmem rfl _ (by simp) _)

theorem accounts_select (s : State) : Accounts s s.select := by
  unfold State.select
  split
  · rename_i hmay
    have hst : s.station.state = .empty := by
      simp only [State.maySelect, Bool.and_eq_true, beq_iff_eq] at hmay
      exact hmay.1.1.1
    split
    · exact Accounts.refl s
    · obtain ⟨hj, hq⟩ := selection_draw_queued ‹_›
      exact accounts_startDraw hst hj hq
    · obtain ⟨hj, hp⟩ := selection_unpark_parked ‹_›
      exact accounts_startUnpark hst hj hp
  · exact Accounts.refl s

/-- What the station does on a notice, by its state. -/
theorem accounts_stationTest (s : State) : Accounts s s.stationTest := by
  refine Accounts.of_sound (keeps_stationTest s) (fun hs => ?_)
  unfold State.stationTest
  split
  · exact Accounts.refl s
  · split
    · exact accounts_select s
    · rename_i hst
      split
      · exact accounts_boundary ⟨by simp [hst], by simp [hst], ‹_›⟩
      · exact accounts_topUpWait hst ‹_›
    · rename_i hst
      exact accounts_boundary ⟨by simp [hst], by simp [hst], first_none hs.dosing (by simp [hst]) (by simp [hst]) (by simp [hst])⟩
    · rename_i hst
      exact accounts_askPlace (by simp [hst]) (fun hs => first_none hs.dosing (by simp [hst]) (by simp [hst]) (by simp [hst]))
    · exact Accounts.refl s

/-! ## The mixers and the press -/

theorem accounts_lidsTo (s : State) (z : Size) (n : Nat) : Accounts s (s.lidsTo z n) := by
  unfold State.lidsTo
  dsimp only
  split <;> exact accounts_of_eq rfl rfl rfl rfl

theorem accounts_drawLid (s : State) (z : Size) : Accounts s (s.drawLid z) :=
  (accounts_lidsTo s z _).trans (accounts_of_eq rfl rfl rfl rfl)

theorem accounts_setPress (s : State) (x : PressState) : Accounts s (s.setPress x) := accounts_of_eq rfl rfl rfl rfl

theorem accounts_setMixer (s : State) (k : MixerId) (x : Mixer) : Accounts s (s.setMixer k x) :=
  accounts_of_eq (by simp) (by simp) (by simp) (by simp)

theorem accounts_startReseat (s : State) (z : Size) : Accounts s (s.startReseat z) :=
  (accounts_setPress s _).trans (accounts_drawLid _ z)

theorem accounts_startFeed (s : State) (j : Job) : Accounts s (s.startFeed j) :=
  Accounts.trans (Accounts.trans (t := { s with press := { s.press with
    lane := s.press.lane.tail, tag := some j.tag, state := .seating .feed } }) (accounts_of_eq rfl rfl rfl rfl)
      (accounts_jobFed _ j.tag)) (accounts_drawLid _ j.size)

theorem accounts_pressTest (s : State) : Accounts s s.pressTest := by
  have hfeed : Accounts s s.feedTest := by
    unfold State.feedTest
    split
    · exact Accounts.refl s
    · split
      · exact Accounts.refl s
      · split
        · exact accounts_startFeed s _
        · exact Accounts.refl s
  refine hfeed.trans ?_
  unfold State.pressTest State.waitLidTest
  split
  · split
    · split
      · exact (accounts_setPress _ _).trans (accounts_drawLid _ _)
      · exact accounts_startReseat _ _
    · exact Accounts.refl _
  · exact Accounts.refl _

theorem accounts_lidMissing (s : State) (z : Size) (d : LidDue) : Accounts s (s.lidMissing z d) :=
  Accounts.trans (t := { s with press := { s.press with lidInHead := false, state := .waitLid d } })
    (accounts_of_eq rfl rfl rfl rfl) (accounts_lidsTo _ z 0)

theorem accounts_unloadToLid (s : State) (k : MixerId) : Accounts s (s.unloadToLid k) :=
  (accounts_setMixer s k _).trans (accounts_of_eq rfl rfl rfl rfl)

theorem accounts_serveHolding (s : State) : Accounts s s.serveHolding := by
  unfold State.serveHolding
  split
  · exact Accounts.refl s
  · split
    · exact accounts_unloadToLid s _
    · exact Accounts.refl s

theorem accounts_startLoad (s : State) (k : MixerId) (j : Job) : Accounts s (s.startLoad k j) :=
  Accounts.trans (Accounts.trans (t := { s with mixers := { s.mixers with lane := s.mixers.lane.tail } })
    (accounts_of_eq rfl rfl rfl rfl) (accounts_setMixer _ k _)) (accounts_jobLoaded _ j.tag k)

theorem accounts_chooseMixer (s : State) : Accounts s s.chooseMixer := by
  unfold State.chooseMixer
  split
  · split
    · exact Accounts.refl s
    · split
      · exact Accounts.refl s
      · split
        · exact Accounts.refl s
        · exact accounts_startLoad s _ _
  · exact Accounts.refl s

theorem accounts_mixerTest (s : State) : Accounts s s.mixerTest :=
  (((accounts_serveHolding s).trans (accounts_serveHolding _)).trans (accounts_chooseMixer _)).trans (accounts_chooseMixer _)

theorem accounts_endMixRun (s : State) (k : MixerId) (j : Job) : Accounts s (s.endMixRun k j) := by
  unfold State.endMixRun
  split
  · exact accounts_setMixer s k _
  · split
    · exact accounts_unloadToLid s k
    · refine (accounts_setMixer s k { s.mixer k with state := .holding }).trans (Accounts.trans ?_ (accounts_jobMixed _ j.tag))
      exact accounts_of_eq rfl rfl rfl rfl

/-! ## The line -/

theorem accounts_noticePresence (s : State) : Accounts s s.noticePresence := accounts_of_eq rfl rfl rfl rfl

theorem accounts_post (s : State) (k : ReportKind) (d j v : Nat) : Accounts s (s.post k d j v) := accounts_of_eq rfl rfl rfl rfl

/-- A station without a tin on its way has no round and no top-up to lose (R83, R84, R85). -/
theorem accounts_tareState {s : State} (hst : s.station.state.tares = true) (w : WeighCell) {y : StationState} (hy : y.tares = true) :
    Accounts s { s with weigh := w, station := { s.station with state := y } } :=
  have hnot : ∀ x : StationState, x.tares = false → s.station.state ≠ x := fun x hx he => by rw [he, hx] at hst; cases hst
  have hnoty : ∀ x : StationState, x.tares = false → y ≠ x := fun x hx he => by rw [he, hx] at hy; cases hy
  have e : Sound s → Rests s { s with weigh := w, station := { s.station with state := y } } := fun hs =>
    { bank := rfl, jobs := rfl, run := fun _ => rfl, before := hnot _ rfl, after := hnoty _ rfl
      first := first_none (s := s) hs.dosing (hnot _ rfl) (hnot _ rfl) (hnot _ rfl)
      round := .inr ⟨rfl, hnoty _ rfl⟩
      job := fun t ht _ _ => hs.dosing.job t ht (hnot _ rfl) (hnot _ rfl) }
  ⟨BankDrawn.refl s, id, fun hs => (e hs).dosingOk hs.dosing, fun hs => (e hs).reservedOk hs.dosing⟩

theorem accounts_tareInvalid (s : State) : Accounts s s.tareInvalid := by
  by_cases h : s.station.state = .empty
  · have hst : s.station.state.tares = true := by rw [h]; rfl
    unfold State.tareInvalid
    rw [if_pos h]
    exact accounts_tareState hst _ (y := .tareWait) rfl
  · unfold State.tareInvalid
    rw [if_neg h]
    exact accounts_of_eq rfl rfl rfl rfl

theorem accounts_enterMode (s : State) (m : LineMode) : Accounts s (s.enterMode m) := by
  have hpost : Accounts s (State.post { s with line := { s.line with mode := m } } .mode m.code 0 0) := accounts_of_eq rfl rfl rfl rfl
  have htare : ∀ u : State, Accounts u u.tareTest := fun u => by
    unfold State.tareTest
    split
    · exact accounts_tareInvalid u
    · exact Accounts.refl u
  have hpower : ∀ u : State, Accounts u u.powerTest := fun u => by
    unfold State.powerTest
    split
    · exact Accounts.refl u
    · exact accounts_of_eq rfl rfl rfl rfl
  exact (hpost.trans (htare _)).trans (hpower _)

theorem accounts_timerClear (s : State) : Accounts s s.timerClear := accounts_of_eq rfl rfl rfl rfl

theorem accounts_startWake (s : State) : Accounts s s.startWake :=
  ((accounts_timerClear s).trans (accounts_enterMode _ _)).trans (accounts_of_eq rfl rfl rfl rfl)

theorem accounts_startSleep (s : State) : Accounts s s.startSleep :=
  ((accounts_timerClear s).trans (accounts_enterMode _ _)).trans (accounts_of_eq rfl rfl rfl rfl)

theorem accounts_wakeTest (s : State) : Accounts s s.wakeTest := by
  unfold State.wakeTest
  split
  · exact accounts_startWake s
  · exact Accounts.refl s

theorem accounts_expiryTest (s : State) : Accounts s s.expiryTest := by
  unfold State.expiryTest
  split
  · exact (accounts_timerClear s).trans (accounts_enterMode _ _)
  · exact Accounts.refl s

theorem accounts_stirTest (s : State) (m : Manifold) : Accounts s (s.stirTest m) := by
  unfold State.stirTest
  dsimp only
  split
  · rename_i h
    exact accounts_setDrive (by simp [Drive.run?, h.1])
  · exact Accounts.refl s

theorem accounts_staleTest (s : State) (m : Manifold) : Accounts s (s.staleTest m) := by
  unfold State.staleTest
  dsimp only
  split
  · exact (accounts_setDrive (d := { s.drive m with stale := true }) rfl).trans (accounts_post _ _ _ _ _)
  · exact Accounts.refl s

theorem accounts_stirTests (s : State) : Accounts s s.stirTests := (accounts_stirTest s .a).trans (accounts_stirTest _ .b)

theorem accounts_clockTests (s : State) : Accounts s s.clockTests :=
  (((accounts_staleTest s .a).trans (accounts_staleTest _ .b)).trans (accounts_expiryTest _)).trans (accounts_stirTests _)

/-- The standing tests keep the bank's account. -/
theorem accounts_conclude (s : State) : Accounts s s.conclude := by
  unfold State.conclude
  extract_lets s1 s2
  have h1 : Accounts s s1 := (accounts_noticePresence s).trans (accounts_wakeTest _)
  have h2 : Accounts s1 s2 := (accounts_stirTest s1 .a).trans (accounts_stirTest _ .b)
  exact (((h1.trans h2).trans (accounts_pressTest s2)).trans (accounts_mixerTest _)).trans
    ((accounts_stationTest _).trans (accounts_noticePresence _))

/-! ## Taking up what a halt left (R106, R136, R149) -/

/-- A round whose runs have all ended has none in progress (R94). -/
theorem accounts_settleRound {s : State} (hover : (s.station.round.map Round.over).getD false = true)
    (hst : s.station.state = .dosing) : Accounts s (s.startSettle .round) where
  bank := BankDrawn.refl s
  tags := id
  dosing hs :=
    { covered := hs.dosing.covered
      runs := fun m r hr => by
        obtain ⟨-, -, -, -, q, hq, x, hx, -, hnone⟩ := hs.dosing.runs m r hr
        rw [hq] at hover
        have := List.all_eq_true.1 hover x hx
        rw [hnone] at this
        cases this
      densities := hs.dosing.densities
      topUp := fun _ _ => .inr (.inl rfl)
      job := fun t ht _ _ => hs.dosing.job t ht (by simp [hst]) (by simp [hst]) }
  reserved hs hr :=
    { reserved := hr.reserved
      codes := hr.codes
      runs := hr.runs
      round := fun q hq htop _ => hr.round q hq htop (.inl hst)
      due := fun _ _ h => by cases h }

theorem accounts_stationTakeUp (s : State) : Accounts s s.stationTakeUp := by
  have h : Accounts s { s with station := { s.station with halted := false } } :=
    SameDosing.accounts ⟨rfl, rfl, fun _ => rfl, rfl, rfl, rfl, rfl⟩
  unfold State.stationTakeUp
  dsimp only
  split
  · rename_i hover
    exact h.trans (accounts_settleRound hover.2 hover.1)
  · exact h

theorem accounts_pressTakeUp (s : State) : Accounts s s.pressTakeUp := by
  have h : Accounts s { s with press := { s.press with halted := false } } := accounts_of_eq rfl rfl rfl rfl
  unfold State.pressTakeUp
  dsimp only
  split
  · split
    · exact h
    · split
      · exact h.trans (accounts_drawLid _ _)
      · exact h.trans (accounts_setPress _ _)
  · exact h

theorem accounts_takeUp (s : State) : Accounts s s.takeUp :=
  have h : Accounts s.stationTakeUp s.stationTakeUp.mixersTakeUp := accounts_of_eq rfl rfl rfl rfl
  ((accounts_stationTakeUp s).trans h).trans (accounts_pressTakeUp _)

end Sys2Proof.ColourantBank
end

section
/-! PROOFS. Records that join and leave the Order Table keep the bank's account: the calculator sets aside no more than is free (R18, R22, R33). -/
namespace Sys2Proof.ColourantBank

open Sys2Proof Sys2Proof.Machine
open Sys2Proof.DoseCalculation (inService_iff chooseCanister_some candidate_iff)

/-! ## The Order Table's records come and go (R18, R22) -/

/-- The drives and the station stand, and so do the records of the DOSING jobs. -/
structure Stands (s t : State) : Prop where
  drives : t.drives = s.drives
  station : t.station = s.station
  jobs : ∀ j ∈ s.orders.jobs, j.state = .dosing → j ∈ t.orders.jobs

theorem Stands.drive {s t : State} (e : Stands s t) (m : Manifold) : t.drive m = s.drive m := by
  cases m <;> simp [State.drive, e.drives]

theorem Stands.topUpAsked {s t : State} (e : Stands s t) (c : CanisterId) : t.topUpAsked c = s.topUpAsked c :=
  topUpAsked_congr (fun m => by rw [e.drive]) c

theorem Stands.dosingOk {s t : State} (e : Stands s t) (hstate : ∀ c, (t.canister c).state = (s.canister c).state)
    (hcovered : ∀ c, (s.canister c).state = .ready ∨ (s.canister c).state = .low →
      (t.canister c).reserved + s.topUpAsked c ≤ (t.canister c).usable) (h : s.DosingOk) : t.DosingOk where
  covered c hc := by
    rw [hstate] at hc
    rw [e.topUpAsked]
    exact hcovered c hc
  runs m r hr := by
    rw [e.drive] at hr
    rw [hstate, e.station]
    exact h.runs m r hr
  densities := by rw [e.station]; exact h.densities
  topUp f hf := by
    rw [e.station] at hf ⊢
    rcases h.topUp f hf with hst | hst | ⟨hst, j, hj, hjob, hd, hrest⟩
    · exact .inl hst
    · exact .inr (.inl hst)
    · exact .inr (.inr ⟨hst, j, e.jobs j hj hd, hjob, hd, hrest⟩)
  job tag := by
    rw [e.station]
    intro ht hdis hheld
    obtain ⟨j, hj, hjt, hd⟩ := h.job tag ht hdis hheld
    exact ⟨j, e.jobs j hj hd, hjt, hd⟩

theorem Stands.tied {s t : State} (e : Stands s t) (hcodes : ∀ j ∈ t.orders.jobs, (j.doses.map (·.code)).Nodup) (h : Tied s) :
    Tied t := by
  have hdose : ∀ {code c n}, s.hasDose code c n → t.hasDose code c n := fun ⟨j, hj, hjob, hd, hrest⟩ =>
    ⟨j, e.jobs j hj hd, by rw [e.station]; exact hjob, hd, hrest⟩
  exact
    { codes := hcodes
      runs := fun m r hr => by
        rw [e.drive] at hr
        rw [e.station]
        obtain ⟨hjob, hrun⟩ := h.runs m r hr
        exact ⟨hjob, hdose hrun⟩
      round := fun q hq htop hst x hx => by
        rw [e.station] at hq hst
        simp only [e.drive]
        obtain ⟨hgoing, hended⟩ := h.round q hq htop hst x hx
        exact ⟨hgoing, fun y hy hp => hdose (hended y hy hp)⟩
      due := fun f hf hst => by
        rw [e.station] at hf hst
        exact hdose (h.due f hf hst) }

theorem sum_filter_of_zero {l : List Job} {p : Job → Bool} {g : Job → Nat} (h : ∀ j ∈ l, p j = false → g j = 0) :
    ((l.filter p).map g).sum = (l.map g).sum := by
  induction l with
  | nil => rfl
  | cons j l ih =>
    have ih' := ih (fun k hk => h k (List.mem_cons_of_mem _ hk))
    cases hp : p j with
    | true => simp [hp, ih']
    | false => simp [hp, ih', h j List.mem_cons_self hp]

/-- Finished records that leave the table take no outstanding steps with them. -/
theorem accounts_dropFinished {s : State} {p : Job → Bool}
    (h : Sound s → ∀ j ∈ s.orders.jobs, p j = false → j.finished = true) :
    Accounts s { s with orders := { s.orders with jobs := s.orders.jobs.filter p } } := by
  have e : Sound s → Stands s { s with orders := { s.orders with jobs := s.orders.jobs.filter p } } := fun hs =>
    { drives := rfl, station := rfl
      jobs := fun j hj hd => List.mem_filter.2 ⟨hj, by
        by_contra hp
        have := h hs j hj (Bool.eq_false_iff.2 hp)
        rw [finished_of_dosing hd] at this
        cases this⟩ }
  refine ⟨BankDrawn.refl s, fun hn => hn.sublist (List.filter_sublist.map _), fun hs => ?_, fun hs hr => ?_⟩
  · exact (e hs).dosingOk (fun _ => rfl) hs.dosing.covered hs.dosing
  · refine ((e hs).tied (fun j hj => hr.codes j (List.mem_filter.1 hj).1) (Tied.of_reservedOk hr)).reservedOk (fun c => ?_)
    refine (hr.reserved c).trans (sum_filter_of_zero (fun j hj hp => ?_)).symm
    exact Job.outstandingOn_finished (h hs j hj hp) c

/-- The records that make room for an ORDER's are finished ones (R18). -/
theorem makeRoom_eq_filter {jobs : List Job} {t : Tag} (hn : (jobs.map (·.tag)).Nodup)
    (ht : ∀ j ∈ jobs, j.tag = t → j.finished = true) :
    ∃ p : Job → Bool, makeRoom jobs t = jobs.filter p ∧ (∀ j ∈ jobs, p j = false → j.finished = true) ∧
      ∀ j ∈ jobs.filter p, j.tag ≠ t := by
  have hothers : ∀ j ∈ jobs, decide (j.tag ≠ t) = false → j.finished = true := fun j hj hp => ht j hj (by simpa using hp)
  have htags : ∀ j ∈ jobs.filter (fun j => decide (j.tag ≠ t)), j.tag ≠ t := fun j hj => by simpa using (List.mem_filter.1 hj).2
  unfold makeRoom
  dsimp only
  split
  · exact ⟨_, rfl, hothers, htags⟩
  · split
    · rename_i old hold
      obtain ⟨hmem, hfin⟩ := List.mem_filter.1 (lowestBy_some hold).1
      refine ⟨fun j => decide (j.tag ≠ old.tag) && decide (j.tag ≠ t), List.filter_filter, fun j hj hp => ?_, fun j hj => ?_⟩
      · rcases Bool.and_eq_false_iff.1 hp with hp | hp
        · have hjo : j = old := List.inj_on_of_nodup_map hn hj (List.mem_filter.1 hmem).1 (by simpa using hp)
          rw [hjo]
          exact hfin
        · exact hothers j hj hp
      · have := (List.mem_filter.1 hj).2
        simp only [Bool.and_eq_true, decide_eq_true_eq] at this
        exact this.2
    · exact ⟨_, rfl, hothers, htags⟩

/-! ## ORDER's commit (R33) -/

theorem setAside_append (l : List Dose) (d : Dose) (c : CanisterId) :
    setAside (l ++ [d]) c = setAside l c + if d.canister = c then d.steps else 0 := by
  by_cases h : d.canister = c <;> simp [setAside, h]

/-- The doses that the calculator assigns fit in the free steps of their canisters together (R30). -/
theorem assign_fits (s : State) (dropped : Nat) (l : List (MergedLine × Nat)) {earlier doses : List Dose} {k : Nat}
    (h : s.assign dropped earlier l = .admitted doses k) (hfit : ∀ c, setAside earlier c ≤ s.free c) (c : CanisterId) :
    setAside doses c ≤ s.free c := by
  induction l generalizing earlier with
  | nil => simp only [State.assign] at h; cases h; exact hfit c
  | cons x l ih =>
    obtain ⟨m, steps⟩ := x
    simp only [State.assign] at h
    split at h
    · rename_i e he
      refine ih h (fun c' => ?_)
      obtain ⟨-, -, -, hsteps⟩ := (candidate_iff s earlier m.code steps e).1 (chooseCanister_some he).1
      have hfit' := hfit c'
      rw [setAside_append]
      by_cases hc : e = c'
      · subst hc
        simp only [State.freeFor] at hsteps
        simp only [if_true]
        omega
      · simp only [hc, if_false]
        omega
    · split at h <;> cases h

theorem calculate_fits {s : State} {o : OrderBody} {size : Size} {base : Base} {doses : List Dose} {k : Nat}
    (h : s.calculate o size base = .admitted doses k) (c : CanisterId) : setAside doses c ≤ s.free c := by
  unfold State.calculate at h
  dsimp only at h
  split at h
  · exact assign_fits s _ _ h (fun e => by simp [setAside]) c
  · cases h

theorem outstandingOn_new {j : Job} (hst : j.state = .queued) (hnew : ∀ d ∈ j.doses, d.delivered = 0) (c : CanisterId) :
    j.outstandingOn c = setAside j.doses c := by
  have hmap : (j.doses.filter (fun d => d.canister = c)).map (·.outstanding) =
      (j.doses.filter (fun d => d.canister = c)).map (·.steps) :=
    List.map_congr_left (fun d hd => by simp [Dose.outstanding, hnew d (List.mem_filter.1 hd).1])
  simp only [Job.outstandingOn, hst, JobState.reserves, if_true, setAside, hmap]

/-- A job is admitted: its doses are reserved in free steps, and its record joins the table (R18, R33). -/
theorem accounts_addJob {s t : State} {j : Job} (hjobs : t.orders.jobs = s.orders.jobs ++ [j]) (hdrives : t.drives = s.drives)
    (hstation : t.station = s.station)
    (hcan : ∀ c, t.canister c = { s.canister c with reserved := (s.canister c).reserved + setAside j.doses c })
    (hst : j.state = .queued) (hcodes : (j.doses.map (·.code)).Nodup) (hnew : ∀ d ∈ j.doses, d.delivered = 0)
    (htag : ∀ k ∈ s.orders.jobs, k.tag ≠ j.tag) (hfree : ∀ c, setAside j.doses c ≤ s.free c) : Accounts s t := by
  have e : Stands s t := ⟨hdrives, hstation, fun k hk _ => by rw [hjobs]; exact List.mem_append_left _ hk⟩
  refine ⟨fun c => by rw [hcan]; exact ⟨rfl, rfl, rfl, le_rfl, id⟩, fun hn => ?_, fun hs => ?_, fun hs hr => ?_⟩
  · rw [hjobs, List.map_append, List.nodup_append]
    refine ⟨hn, by simp, fun a ha b hb hab => ?_⟩
    obtain ⟨k, hk, rfl⟩ := List.mem_map.1 ha
    exact htag k hk (hab.trans (by simpa using hb))
  · refine e.dosingOk (fun c => by rw [hcan]) (fun c hc => ?_) hs.dosing
    have hcov := hs.dosing.covered c hc
    have hfree' := hfree c
    rw [free_eq, if_pos hc] at hfree'
    rw [hcan]
    show (s.canister c).reserved + setAside j.doses c + s.topUpAsked c ≤ (s.canister c).usable
    omega
  · refine (e.tied (fun k hk => ?_) (Tied.of_reservedOk hr)).reservedOk (fun c => ?_)
    · rw [hjobs] at hk
      rcases List.mem_append.1 hk with hk | hk
      · exact hr.codes k hk
      · rw [List.mem_singleton.1 hk]
        exact hcodes
    · have hres := hr.reserved c
      rw [hcan, State.outstandingOn, hjobs, List.map_append, List.sum_append]
      simp only [List.map_cons, List.map_nil, List.sum_cons, List.sum_nil, outstandingOn_new hst hnew, Nat.add_zero]
      rw [hres]
      rfl

theorem liveJob_none {s : State} {t : Tag} (h : s.liveJob t = none) : ∀ j ∈ s.orders.jobs, j.tag = t → j.finished = true :=
  fun j hj ht => by
    have hl := List.find?_eq_none.1 h j hj
    by_contra hf
    exact hl ((live_iff j t).2 ⟨ht, Bool.eq_false_iff.2 hf⟩)

theorem accounts_admitJob {s : State} {o : OrderBody} {size : Size} {base : Base} {doses : List Dose} {dropped : Nat}
    (hcalc : s.calculate o size base = .admitted doses dropped) (hlive : s.liveJob o.tag = none) :
    Accounts s (s.admitJob o size base doses dropped) := by
  obtain ⟨horders, hdrives, hstation, -, hcan⟩ := foldl_reserveDose doses s
  obtain ⟨hcodes, hnew⟩ := s.calculate_doses o size base doses dropped hcalc
  have hbank : BankDrawn s (s.admitJob o size base doses dropped) := fun c => by
    have h : (s.admitJob o size base doses dropped).canister c = _ := hcan c
    rw [h]
    exact ⟨rfl, rfl, rfl, le_rfl, id⟩
  have hall : (s.orders.jobs.map (·.tag)).Nodup → Accounts s (s.admitJob o size base doses dropped) := fun hn => by
    obtain ⟨p, hp, hdrop, htags⟩ := makeRoom_eq_filter hn (liveJob_none hlive)
    have hjobs : (s.admitJob o size base doses dropped).orders.jobs = s.orders.jobs.filter p ++
        [o.job size base doses dropped (s.orders.admissionCounter + 1) s.line.clock] := by
      have hroom : makeRoom (doses.foldl State.reserveDose s).orders.jobs o.tag = s.orders.jobs.filter p := by rw [horders, hp]
      rw [← hroom]
      rfl
    have hfree : ∀ c, setAside doses c ≤ s.free c := calculate_fits hcalc
    exact (accounts_dropFinished (fun _ => hdrop)).trans (accounts_addJob hjobs hdrives hstation hcan rfl hcodes hnew htags hfree)
  exact ⟨hbank, fun hn => (hall hn).tags hn, fun hs => (hall hs.tags).dosing hs, fun hs => (hall hs.tags).reserved hs⟩

end Sys2Proof.ColourantBank
end

section
/-! PROOFS. The drives' events, the emergency stop and the float events keep the bank's account (R49, R71, R73, R76). -/
namespace Sys2Proof.ColourantBank

open Sys2Proof Sys2Proof.Machine
open Sys2Proof.DoseCalculation (inService_iff)

/-! ## The drives' events -/

theorem accounts_completeStir (s : State) (m : Manifold) : Accounts s (s.completeStir m) := by
  unfold State.completeStir
  dsimp only
  split
  · rename_i elapsed duration hst
    split
    · exact (accounts_setDrive (by simp [Drive.run?, hst])).trans (accounts_conclude _)
    · exact Accounts.refl s
  · exact Accounts.refl s

/-- A run with one more step pumped (R71). -/
def pumpedOn (run : DoseRun) : DoseRun := { run with pumped := run.pumped + 1 }

/-- The drive's state with one more step pumped. -/
def stepPumped (s : State) (m : Manifold) (run : DoseRun) : State :=
  s.setDrive m { s.drive m with state := .dosing (pumpedOn run) }

section
variable {s : State} {m : Manifold} {run : DoseRun}

theorem stepPumped_drive (n : Manifold) :
    ((stepPumped s m run).drive n).state = if n = m then .dosing (pumpedOn run) else (s.drive n).state := by
  rw [stepPumped, State.setDrive_drive]
  split <;> rfl

/-- A run in progress after the step was in progress before it. -/
theorem stepPumped_run (hrun : (s.drive m).state = .dosing run) {n : Manifold} {r : DoseRun}
    (hr : ((stepPumped s m run).drive n).state = .dosing r) :
    ∃ q, (s.drive n).state = .dosing q ∧ (n ≠ m → r = q) ∧ ∃ p, r = { q with pumped := p } := by
  rw [stepPumped_drive] at hr
  by_cases hn : n = m
  · rw [if_pos hn] at hr
    injection hr with hr
    exact ⟨run, hn ▸ hrun, fun h => absurd hn h, run.pumped + 1, hr.symm⟩
  · rw [if_neg hn] at hr
    exact ⟨r, hr, fun _ => rfl, r.pumped, rfl⟩

theorem stepPumped_going (hrun : (s.drive m).state = .dosing run) {n : Manifold} {q : DoseRun} (hq : (s.drive n).state = .dosing q) :
    ∃ p, ((stepPumped s m run).drive n).state = .dosing { q with pumped := p } := by
  rw [stepPumped_drive]
  by_cases hn : n = m
  · subst hn
    rw [hrun] at hq
    injection hq with hq
    subst hq
    exact ⟨run.pumped + 1, if_pos rfl⟩
  · rw [if_neg hn]
    exact ⟨q.pumped, hq⟩

theorem stepPumped_topUpAsked (hrun : (s.drive m).state = .dosing run) (c : CanisterId) :
    (stepPumped s m run).topUpAsked c = s.topUpAsked c := by
  by_cases h : ∃ q, (s.drive (manifoldOf c)).state = .dosing q ∧ q.canister = c
  · obtain ⟨q, hq, hc⟩ := h
    obtain ⟨p, hp⟩ := stepPumped_going hrun hq
    rw [topUpAsked_of_run hq hc, topUpAsked_of_run hp hc]
  · rw [topUpAsked_eq_zero (fun r hr hc => absurd ⟨r, hr, hc⟩ h), topUpAsked_eq_zero (fun r hr hc => ?_)]
    obtain ⟨q, hq, -, p, rfl⟩ := stepPumped_run hrun hr
    exact absurd ⟨q, hq, hc⟩ h

theorem ending_stepPumped (h : s.DosingOk) (hrun : (s.drive m).state = .dosing run) :
    Ending (stepPumped s m run) m (pumpedOn run) := by
  have hcan : ∀ c, (stepPumped s m run).canister c = s.canister c := canister_congr (State.setDrive_bank _ _ _)
  have hst : (stepPumped s m run).station = s.station := State.setDrive_station _ _ _
  obtain ⟨-, hpumped, hdosing, -⟩ := h.runs m run hrun
  exact
    { inProgress := by rw [stepPumped_drive, if_pos rfl]
      pumped := hpumped
      covered := fun c hc => by
        rw [hcan] at hc ⊢
        rw [stepPumped_topUpAsked hrun]
        exact h.covered c hc
      runs := fun n r hr => by
        obtain ⟨q, hq, -, p, rfl⟩ := stepPumped_run hrun hr
        obtain ⟨hm, -, hstate, -, hround⟩ := h.runs n q hq
        rw [hst]
        exact ⟨hm, hstate, hround⟩
      others := fun n r hn hr => by
        obtain ⟨q, hq, hsame, -⟩ := stepPumped_run hrun hr
        obtain ⟨-, hp, -, hserving, -⟩ := h.runs n q hq
        rw [hcan, hsame hn]
        exact ⟨hp, hserving⟩
      densities := by rw [hst]; exact h.densities
      job := fun t ht => by
        rw [hst] at ht
        have := h.job t ht (by simp [hdosing]) (by simp [hdosing])
        rwa [show (stepPumped s m run).orders = s.orders from State.setDrive_orders _ _ _] }

theorem reservedOk_stepPumped (hrun : (s.drive m).state = .dosing run) (h : s.ReservedOk) : (stepPumped s m run).ReservedOk := by
  have hbank : (stepPumped s m run).bank = s.bank := State.setDrive_bank _ _ _
  have hst : (stepPumped s m run).station = s.station := State.setDrive_station _ _ _
  have hjobs : (stepPumped s m run).orders = s.orders := State.setDrive_orders _ _ _
  have hdose : ∀ code c n, (stepPumped s m run).hasDose code c n ↔ s.hasDose code c n :=
    fun _ _ _ => by simp only [State.hasDose, hjobs, hst]
  exact
    { reserved := fun c => by rw [canister_congr hbank, State.outstandingOn, hjobs]; exact h.reserved c
      codes := by rw [hjobs]; exact h.codes
      runs := fun n r hr => by
        obtain ⟨q, hq, -, p, rfl⟩ := stepPumped_run hrun hr
        rw [hst, hdose]
        exact h.runs n q hq
      round := fun q hq htop hstate x hx => by
        rw [hst] at hq hstate
        obtain ⟨hgoing, hended⟩ := h.round q hq htop hstate x hx
        refine ⟨fun hnone => ?_, fun y hy hp => (hdose _ _ _).2 (hended y hy hp)⟩
        obtain ⟨r, hr, hrest⟩ := hgoing hnone
        obtain ⟨p, hp⟩ := stepPumped_going hrun hr
        exact ⟨_, hp, hrest⟩
      due := fun f hf hstate => by
        rw [hst] at hf hstate
        exact (hdose _ _ _).2 (h.due f hf hstate) }

/-- A step that does not complete its run. -/
theorem accounts_stepPumped (hrun : (s.drive m).state = .dosing run) (hp : run.pumped + 1 < run.asked) :
    Accounts s (stepPumped s m run) := by
  refine Accounts.of_keeps (keeps_setDrive s m _) (fun hs => ?_) (fun _ hr => reservedOk_stepPumped hrun hr)
  have e := ending_stepPumped hs.dosing hrun
  have hcan : ∀ c, (stepPumped s m run).canister c = s.canister c := canister_congr (State.setDrive_bank _ _ _)
  exact
    { covered := e.covered
      runs := fun n r hr => by
        obtain ⟨hm, hstate, hround⟩ := e.runs n r hr
        refine ⟨hm, ?_, hstate, fun ht => ?_, hround⟩
        · by_cases hn : n = m
          · rw [stepPumped_drive, if_pos hn] at hr
            injection hr with hr
            subst hr
            exact hp
          · exact (e.others n r hn hr).1
        · obtain ⟨q, hq, -, p, rfl⟩ := stepPumped_run hrun hr
          obtain ⟨-, -, -, hserving, -⟩ := hs.dosing.runs n q hq
          rw [hcan]
          exact hserving ht
      densities := e.densities
      topUp := fun _ _ => .inl e.station_state
      job := fun t ht _ _ => e.job t ht }

/-- A run that a step completes. -/
theorem accounts_runComplete (hrun : (s.drive m).state = .dosing run) :
    Accounts s ((stepPumped s m run).endRun m .idle .complete) :=
  Accounts.of_keeps ((keeps_setDrive s m _).trans (keeps_endRun _ m .idle .complete))
    (fun hs => dosingOk_endRun (ending_stepPumped hs.dosing hrun) (fun _ h => by cases h))
    (fun hs hr => reservedOk_endRun (ending_stepPumped hs.dosing hrun) (fun _ h => by cases h)
      (by rw [show (stepPumped s m run).orders = s.orders from State.setDrive_orders _ _ _]; exact hs.tags)
      (reservedOk_stepPumped hrun hr))

theorem pump_of_run (hrun : (s.drive m).state = .dosing run) :
    s.pump m = if run.asked ≤ run.pumped + 1 then ((stepPumped s m run).endRun m .idle .complete).conclude
      else stepPumped s m run := by
  simp only [State.pump, (run?_eq_some_iff _ _).2 hrun]
  rfl

end

theorem accounts_pump (s : State) (m : Manifold) : Accounts s (s.pump m) := by
  by_cases h : ∃ run, (s.drive m).state = .dosing run
  · obtain ⟨run, hrun⟩ := h
    rw [pump_of_run hrun]
    split
    · exact (accounts_runComplete hrun).trans (accounts_conclude _)
    · exact accounts_stepPumped hrun (by omega)
  · simp only [State.pump, (run?_eq_none_iff _).2 (fun r hr => h ⟨r, hr⟩)]
    exact Accounts.refl s

theorem accounts_stall (s : State) (m : Manifold) : Accounts s (s.stall m) := by
  unfold State.stall State.postManifoldFault
  dsimp only
  split
  · exact ((accounts_endRun s m (fun _ h => by cases h) .stall).trans (accounts_post _ _ _ _ _)).trans (accounts_conclude _)
  · rename_i hst
    exact ((accounts_setDrive (d := { s.drive m with state := .faulted .stir }) (by simp [Drive.run?, hst])).trans
      (accounts_post _ _ _ _ _)).trans (accounts_conclude _)
  · exact Accounts.refl s
  · exact Accounts.refl s

theorem accounts_countSecond (s : State) : Accounts s s.countSecond := by
  have htick : ∀ d : Drive, d.tick.run? = d.run? := fun d => by
    unfold Drive.tick Drive.run?
    cases d.state <;> rfl
  exact SameDosing.accounts ⟨rfl, rfl, fun m => by cases m <;> exact htick _, rfl, rfl, rfl, rfl⟩

/-- A drive at the assertion of E-STOP (R76). -/
theorem accounts_haltDrive (s : State) (m : Manifold) : Accounts s (s.haltDrive m) := by
  unfold State.haltDrive
  dsimp only
  refine (accounts_endRun s m (fun _ h => by cases h) .estop).trans (accounts_setDrive ?_)
  unfold Drive.run?
  cases ((s.endRun m .idle .estop).drive m).state <;> rfl

theorem accounts_haltTopUp (s : State) : Accounts s s.haltTopUp := by
  unfold State.haltTopUp
  split
  · exact accounts_abandonTopUp (settled_of_waitDrive ‹_›) _
  · exact Accounts.refl s

theorem accounts_assertEstop (s : State) : Accounts s s.assertEstop := by
  have h1 : ∀ u : State, Accounts u { u with station := { u.station with halted := true } } :=
    fun u => SameDosing.accounts ⟨rfl, rfl, fun _ => rfl, rfl, rfl, rfl, rfl⟩
  have hblocks : ∀ u : State, Accounts u u.haltBlocks := fun u =>
    ((((h1 u).trans (accounts_haltDrive _ .a)).trans (accounts_haltDrive _ .b)).trans (accounts_haltTopUp _)).trans
      (accounts_of_eq rfl rfl rfl rfl)
  have hline : Accounts s { s with line := s.line.halt } := accounts_of_eq rfl rfl rfl rfl
  have hestop := (hline.trans (hblocks _)).trans (accounts_post _ .estop 1 0 0)
  unfold State.assertEstop
  dsimp only
  split
  · exact hestop
  · exact hestop.trans (accounts_post _ _ _ _ _)

/-! ## Floats (R49, R50, R51) -/

/-- A canister's record as its float trips in service (R49). -/
def floated (k : Canister) : Canister := { k with tripped := true, usable := 0, state := .short .float }

theorem drawn_floated (k : Canister) : Drawn k (floated k) := ⟨rfl, rfl, rfl, Nat.zero_le _, id⟩

/-- A float that trips under a run leaves the run to end (R72). -/
theorem ending_floated {s : State} {c : CanisterId} {run : DoseRun} (h : s.DosingOk)
    (hrun : (s.drive (manifoldOf c)).state = .dosing run) :
    Ending (s.setCanister c (floated (s.canister c))) (manifoldOf c) run := by
  have e := Ending.of_dosingOk h hrun
  have hasked : ∀ e, (s.setCanister c (floated (s.canister c))).topUpAsked e = s.topUpAsked e := topUpAsked_congr (fun _ => rfl)
  exact
    { inProgress := hrun
      pumped := e.pumped
      covered := fun d hd => by
        rw [State.setCanister_canister] at hd ⊢
        rw [hasked]
        split at hd
        · simp [floated] at hd
        · rw [if_neg ‹_›]
          exact h.covered d hd
      runs := e.runs
      others := fun n r hn hr => by
        obtain ⟨hp, hserving⟩ := e.others n r hn hr
        have hm := (e.runs n r hr).1
        rw [State.setCanister_canister, if_neg (fun hrc => hn (by rw [← hm, hrc]))]
        exact ⟨hp, hserving⟩
      densities := e.densities
      job := e.job }

theorem Ending.congr {s t : State} {m : Manifold} {run : DoseRun} (e : SameDosing s t) (h : Ending s m run) : Ending t m run where
  inProgress := (dosing_congr (e.run m) run).2 h.inProgress
  pumped := h.pumped
  covered c hc := by
    rw [canister_congr e.bank] at hc ⊢
    rw [topUpAsked_congr e.run]
    exact h.covered c hc
  runs n r hr := by
    rw [e.state, e.round]
    exact h.runs n r ((dosing_congr (e.run n) r).1 hr)
  others n r hn hr := by
    rw [canister_congr e.bank]
    exact h.others n r hn ((dosing_congr (e.run n) r).1 hr)
  densities := by rw [e.round]; exact h.densities
  job := by rw [e.job, e.jobs]; exact h.job

theorem running_iff (s : State) (c : CanisterId) :
    s.running c = true ↔ ∃ r, (s.drive (manifoldOf c)).state = .dosing r ∧ r.canister = c := by
  rw [State.running, Option.isSome_iff_exists]
  simp only [runOn_eq_some_iff]

theorem floatTrip_of_serving {s : State} {c : CanisterId} (h : (s.canister c).state = .ready ∨ (s.canister c).state = .low) :
    s.floatTrip c =
      if s.running c then
        ((s.setCanister c (floated (s.canister c))).post .canisterShort 1 c.val 0).endRun (manifoldOf c) .idle .float
      else (s.setCanister c (floated (s.canister c))).post .canisterShort 1 c.val 0 := by
  unfold State.floatTrip
  rw [if_pos ((inService_iff _).2 h)]
  rfl

theorem floatTrip_of_not_serving {s : State} {c : CanisterId}
    (h : ¬ ((s.canister c).state = .ready ∨ (s.canister c).state = .low)) :
    s.floatTrip c = s.setCanister c { s.canister c with tripped := true }.retest := by
  unfold State.floatTrip
  rw [if_neg (fun hs => h ((inService_iff _).1 hs))]

theorem drawn_retest {k l : Canister} (h : Drawn k l) : Drawn k l.retest := h.trans (Drawn.of_eased l.retest_eased)

/-- The test of R51 after a change of the float. -/
theorem accounts_floatTested (s : State) (c : CanisterId) (tripped : Bool) :
    Accounts s (s.setCanister c { s.canister c with tripped := tripped }.retest) := by
  have hdrawn : Drawn (s.canister c) { s.canister c with tripped := tripped }.retest := drawn_retest ⟨rfl, rfl, rfl, le_rfl, id⟩
  by_cases hs : (s.canister c).state = .ready ∨ (s.canister c).state = .low
  · have hsame : ({ s.canister c with tripped := tripped } : Canister).retest = { s.canister c with tripped := tripped } :=
      retest_of_not_short (fun x hx => by
        have hx' : (s.canister c).state = .short x := hx
        simp [hx'] at hs)
    rw [hsame] at hdrawn ⊢
    exact accounts_setCanister_same hdrawn rfl rfl rfl
  · exact accounts_setCanister_idle hdrawn (fun h => no_topUp_out hs h.dosing) (retest_covered (fun h => absurd h hs))
      (Canister.retest_reserved _)

theorem accounts_floatTrip (s : State) (c : CanisterId) : Accounts s (s.floatTrip c) := by
  by_cases hs : (s.canister c).state = .ready ∨ (s.canister c).state = .low
  · rw [floatTrip_of_serving hs]
    have hbank : BankDrawn s (s.setCanister c (floated (s.canister c))) := BankDrawn.setCanister (drawn_floated _)
    have hpost := SameDosing.of_eq (s := s.setCanister c (floated (s.canister c)))
      (t := (s.setCanister c (floated (s.canister c))).post .canisterShort 1 c.val 0) rfl rfl rfl rfl
    split
    · rename_i hrun
      obtain ⟨run, hrun, -⟩ := (running_iff s c).1 hrun
      have hkeeps := keeps_endRun ((s.setCanister c (floated (s.canister c))).post .canisterShort 1 c.val 0) (manifoldOf c) .idle .float
      exact
        { bank := hbank.trans ((BankDrawn.of_bank hpost.bank).trans (BankDrawn.of_keeps hkeeps))
          tags := fun hn => by rw [hkeeps.tags]; exact hn
          dosing := fun h => dosingOk_endRun (Ending.congr hpost (ending_floated h.dosing hrun)) (fun _ h => by cases h)
          reserved := fun h hr => reservedOk_endRun (Ending.congr hpost (ending_floated h.dosing hrun)) (fun _ h => by cases h)
            h.tags (hpost.reservedOk (reservedOk_setCanister hr rfl)) }
    · rename_i hrun
      refine (accounts_setCanister_idle (drawn_floated _) (fun _ r hr hc => absurd ((running_iff s c).2 ⟨r, hr, hc⟩) hrun)
        (fun hk => by simp [floated] at hk) rfl).trans hpost.accounts
  · rw [floatTrip_of_not_serving hs]
    exact accounts_floatTested s c true

end Sys2Proof.ColourantBank
end

section
/-! PROOFS. The ends of the Dosing Station's transfers and settles, and the weigh cell's readings, keep the bank's account. -/
namespace Sys2Proof.ColourantBank

open Sys2Proof Sys2Proof.Machine

/-! ## A station between rounds -/

/-- The station states in which no round stands and the tin is not on its way to the mix lane. -/
def BetweenRounds (x : StationState) : Prop :=
  x ≠ .dosing ∧ x ≠ .weighing .round ∧ x ≠ .waitDrive ∧ x ≠ .discharging ∧ x ≠ .held

theorem BetweenRounds.atBoundary {s : State} (h : BetweenRounds s.station.state) (hs : s.DosingOk) : AtBoundary s := by
  obtain ⟨hdosing, hround, hwait, hdis, hheld⟩ := h
  exact ⟨hdosing, ⟨hdis, hheld⟩, first_none hs hdosing hround hwait⟩

theorem accounts_betweenRounds {s t : State} (h : BetweenRounds s.station.state) (k : Keeps s t)
    (ht : AtBoundary s → Accounts s t) : Accounts s t :=
  Accounts.of_sound k (fun hs => ht (h.atBoundary hs.dosing))

/-! ## The records apart from the station's -/

theorem foldl_releaseDose_withStation (l : List Dose) (s : State) (x : Station) :
    l.foldl State.releaseDose (withStation s x) = withStation (l.foldl State.releaseDose s) x := by
  induction l generalizing s with
  | nil => rfl
  | cons d l ih => exact ih (s.releaseDose d)

theorem postFinish_withStation (s : State) (x : Station) (j : Job) (fin : JobState) :
    (withStation s x).postFinish j fin = withStation (s.postFinish j fin) x := by
  cases fin <;> rfl

/-- Finishing a job neither reads nor changes the station's record (R11). -/
theorem finishJob_withStation (s : State) (x : Station) (t : Tag) (fin : JobState) :
    (withStation s x).finishJob t fin = withStation (s.finishJob t fin) x := by
  have hlive : (withStation s x).liveJob t = s.liveJob t := rfl
  cases hj : s.liveJob t with
  | none => rw [finishJob_of_none hj, finishJob_of_none (hlive.trans hj)]
  | some j =>
    by_cases hmay : j.state.mayFinish fin = true
    · have hended : ended (withStation s x) t fin = withStation (ended s t fin) x := rfl
      rw [finishJob_of_mayFinish hj hmay, finishJob_of_mayFinish (hlive.trans hj) hmay, hended, ← postFinish_withStation]
      split
      · rw [foldl_releaseDose_withStation]
      · rfl
    · rw [finishJob_of_not_mayFinish hj hmay, finishJob_of_not_mayFinish (hlive.trans hj) hmay]

theorem finishJob_station (s : State) (t : Tag) (fin : JobState) : (s.finishJob t fin).station = s.station := by
  have h := congrArg State.station (finishJob_withStation s s.station t fin)
  exact h

/-- DOSING to QUEUED (R6). -/
def requeued (s : State) (t : Tag) : State := s.moveJob t (· == .dosing) (fun j => { j with state := .queued })

theorem jobUndrawn_of_pending {s : State} {t : Tag} {j : Job} (hj : (requeued s t).liveJob t = some j)
    (hp : j.cancelPending = true) : s.jobUndrawn t = (requeued s t).finishJob t .cancelled := by
  rw [requeued] at hj
  simp only [State.jobUndrawn, hj, hp, if_true, requeued]

theorem jobUndrawn_of_not_pending {s : State} {t : Tag} (h : ∀ j, (requeued s t).liveJob t = some j → j.cancelPending = false) :
    s.jobUndrawn t = requeued s t := by
  rw [requeued] at h ⊢
  unfold State.jobUndrawn
  dsimp only
  split
  · rename_i j hj
    rw [h j hj]
    rfl
  · rfl

/-- What a failed draw does to its job: back to QUEUED, or CANCELLED at once (R6). -/
theorem jobUndrawn_cases (s : State) (t : Tag) :
    s.jobUndrawn t = requeued s t ∨ s.jobUndrawn t = (requeued s t).finishJob t .cancelled := by
  by_cases h : ∃ j, (requeued s t).liveJob t = some j ∧ j.cancelPending = true
  · obtain ⟨j, hj, hp⟩ := h
    exact .inr (jobUndrawn_of_pending hj hp)
  · exact .inl (jobUndrawn_of_not_pending (fun j hj => by
      rw [← Bool.not_eq_true]
      exact fun hp => h ⟨j, hj, hp⟩))

theorem jobUndrawn_withStation (s : State) (x : Station) (t : Tag) :
    (withStation s x).jobUndrawn t = withStation (s.jobUndrawn t) x := by
  have hreq : requeued (withStation s x) t = withStation (requeued s t) x := rfl
  have hlive : (withStation (requeued s t) x).liveJob t = (requeued s t).liveJob t := rfl
  by_cases h : ∃ j, (requeued s t).liveJob t = some j ∧ j.cancelPending = true
  · obtain ⟨j, hj, hp⟩ := h
    rw [jobUndrawn_of_pending hj hp, jobUndrawn_of_pending (by rw [hreq, hlive]; exact hj) hp, hreq, finishJob_withStation]
  · have hnot : ∀ j, (requeued s t).liveJob t = some j → j.cancelPending = false := fun j hj => by
      rw [← Bool.not_eq_true]
      exact fun hp => h ⟨j, hj, hp⟩
    rw [jobUndrawn_of_not_pending hnot, jobUndrawn_of_not_pending (by rw [hreq, hlive]; exact hnot), hreq]

theorem stationEmpty_eq (s : State) : s.stationEmpty =
    withStation s { s.station with state := .empty, job := none, readingBefore := none, round := none, firstRound := none,
                                   transfer := none } := rfl

theorem not_attends_stationEmpty (s : State) (t : Tag) : ¬ Attends s.stationEmpty t := fun ⟨hjob, _⟩ => by cases hjob

theorem stationEmpty_finishJob (s : State) (t : Tag) (fin : JobState) :
    (s.finishJob t fin).stationEmpty = s.stationEmpty.finishJob t fin := by
  rw [stationEmpty_eq, stationEmpty_eq, finishJob_withStation, finishJob_station]

theorem stationEmpty_jobUndrawn (s : State) (t : Tag) : (s.jobUndrawn t).stationEmpty = s.stationEmpty.jobUndrawn t := by
  have hst : (s.jobUndrawn t).station = s.station := by
    have h := congrArg State.station (jobUndrawn_withStation s s.station t)
    exact h
  rw [stationEmpty_eq, stationEmpty_eq, jobUndrawn_withStation, hst]

theorem accounts_jobUndrawn {s : State} {t : Tag} (h : ¬ Attends s t) : Accounts s (s.jobUndrawn t) := by
  have hreq : Accounts s (requeued s t) :=
    accounts_moveJob (fun _ => rfl) (fun _ => rfl) (fun j hj => by rw [eq_of_beq hj]; rfl) (fun _ => h)
  rcases jobUndrawn_cases s t with e | e <;> rw [e]
  · exact hreq
  · exact hreq.trans (accounts_finishJob _ (fun _ _ _ _ => h))

/-! ## Park numbers (R111) -/

/-- Every record changed in place, with its tag, its doses and its reserving kept and a DOSING job as it was. -/
theorem accounts_mapJobs {s : State} {f : Job → Job} (htag : ∀ j, (f j).tag = j.tag) (hdoses : ∀ j, (f j).doses = j.doses)
    (hreserves : ∀ j, (f j).state.reserves = j.state.reserves) (hdosing : ∀ j, j.state = .dosing → f j = j) :
    Accounts s { s with orders := { s.orders with jobs := s.orders.jobs.map f } } := by
  have hstands : Stands s { s with orders := { s.orders with jobs := s.orders.jobs.map f } } :=
    ⟨rfl, rfl, fun j hj hd => List.mem_map.2 ⟨j, hj, hdosing j hd⟩⟩
  refine ⟨BankDrawn.of_bank rfl, fun h => ?_, fun hs => hstands.dosingOk (fun _ => rfl) hs.dosing.covered hs.dosing, fun _ h => ?_⟩
  · simpa [htag, Function.comp_def] using h
  · refine (hstands.tied (fun k hk => ?_) (Tied.of_reservedOk h)).reservedOk (fun c => (h.reserved c).trans ?_)
    · obtain ⟨j, hj, rfl⟩ := List.mem_map.1 hk
      rw [hdoses]
      exact h.codes j hj
    · simp [State.outstandingOn, Job.outstandingOn, hreserves, hdoses, Function.comp_def]

theorem accounts_renumberRack (s : State) : Accounts s s.renumberRack := by
  unfold State.renumberRack renumber
  split
  · refine Accounts.trans (accounts_mapJobs (fun j => ?_) (fun j => ?_) (fun j => ?_) (fun j hj => ?_)) (accounts_of_eq rfl rfl rfl rfl)
    · split <;> rfl
    · split <;> rfl
    · split
      · rename_i h
        rw [h]
        rfl
      · rfl
    · rw [hj]
  · exact Accounts.refl s

theorem renumberRack_station (s : State) : s.renumberRack.station = s.station := by
  unfold State.renumberRack
  split <;> rfl

/-! ## Ends of transfers -/

theorem freeShelfAt_station (s : State) (i : ShelfId) : (s.freeShelfAt i).station = s.station := by
  unfold State.freeShelfAt
  dsimp only
  split <;> rfl

theorem accounts_freeShelfAt (s : State) (i : ShelfId) : Accounts s (s.freeShelfAt i) := by
  unfold State.freeShelfAt
  dsimp only
  split <;> exact accounts_of_eq rfl rfl rfl rfl

theorem atBoundary_of_station {s t : State} (e : t.station = s.station) (h : AtBoundary s) : AtBoundary t :=
  ⟨e ▸ h.notDosing, e ▸ h.notLeaving, e ▸ h.first⟩

theorem accounts_freed_reject {s : State} (h : AtBoundary s) (i : ShelfId) : Accounts s (s.freeShelfAt i).startReject :=
  (accounts_freeShelfAt s i).trans (accounts_startReject (atBoundary_of_station (freeShelfAt_station s i) h))

theorem accounts_drawEnd {s : State} (hst : s.station.state = .drawing) : Accounts s (s.startSettle .draw) :=
  accounts_betweenRounds (by simp [BetweenRounds, hst]) (keeps_startSettle s _) (fun h => accounts_startSettle h (by simp))

theorem accounts_endUnpark {s : State} (hst : s.station.state = .unparking) : Accounts s s.endUnpark := by
  have hb : BetweenRounds s.station.state := by simp [BetweenRounds, hst]
  unfold State.endUnpark
  split
  · rename_i i _
    dsimp only
    split
    · exact accounts_betweenRounds hb ((keeps_freeShelfAt s i).trans (keeps_startReject _)) (fun h => accounts_freed_reject h i)
    · exact accounts_betweenRounds hb ((keeps_freeShelfAt s i).trans (keeps_startSettle _ _)) (fun h =>
        (accounts_freeShelfAt s i).trans
          (accounts_startSettle (atBoundary_of_station (freeShelfAt_station s i) h) (by simp)))
  · exact Accounts.refl s

/-- The tin leaves the platform before the job leaves DOSING: the two records do not meet. -/
theorem leaveOnShelf_eq (s : State) (t : Tag) (i : ShelfId) (r : ParkReason) :
    s.leaveOnShelf t i r =
      (({ s.renumberRack.setShelf i (.holding t) with
          rack := { (s.renumberRack.setShelf i (.holding t)).rack with
            parkCounter := s.renumberRack.rack.parkCounter + 1 } }.stationEmpty).jobParked t r
        (s.renumberRack.rack.parkCounter + 1)).post .jobParked r.code t 0 := rfl

theorem accounts_leaveOnShelf {s : State} (h : s.station.state ≠ .dosing) (t : Tag) (i : ShelfId) (r : ParkReason) :
    Accounts s (s.leaveOnShelf t i r) := by
  rw [leaveOnShelf_eq]
  have hshelf : Accounts s { s.renumberRack.setShelf i (.holding t) with
      rack := { (s.renumberRack.setShelf i (.holding t)).rack with parkCounter := s.renumberRack.rack.parkCounter + 1 } } :=
    (accounts_renumberRack s).trans (accounts_of_eq rfl rfl rfl rfl)
  have hst : s.renumberRack.station.state ≠ .dosing := by
    rw [renumberRack_station]
    exact h
  exact ((hshelf.trans (accounts_stationEmpty hst)).trans (accounts_jobParked (not_attends_stationEmpty _ t) r _)).trans
    (accounts_post _ _ _ _ _)

theorem accounts_endPark {s : State} (hst : s.station.state = .parking) : Accounts s s.endPark := by
  unfold State.endPark
  split
  · rename_i i r t _ _
    split
    · exact accounts_betweenRounds (by simp [BetweenRounds, hst]) ((keeps_freeShelfAt s i).trans (keeps_startReject _))
        (fun h => accounts_freed_reject h i)
    · exact accounts_leaveOnShelf (by simp [hst]) t i r
  · exact Accounts.refl s

theorem accounts_endDischarge {s : State} (hst : s.station.state = .discharging) : Accounts s s.endDischarge := by
  unfold State.endDischarge
  split
  · exact Accounts.refl s
  · rename_i t _
    have hlane : Accounts s { s with mixers := { s.mixers with lane := s.mixers.lane ++ [t], heldPlace := false } } :=
      accounts_of_eq rfl rfl rfl rfl
    exact hlane.trans (accounts_stationEmpty (by simp [hst]))

theorem accounts_endReject {s : State} (hst : s.station.state = .rejecting) : Accounts s s.endReject := by
  unfold State.endReject
  split
  · exact Accounts.refl s
  · rename_i t _
    rw [stationEmpty_finishJob]
    exact (accounts_stationEmpty (by simp [hst])).trans
      (accounts_finishJob _ (fun _ _ _ _ => not_attends_stationEmpty s t))

/-! ## The end of a settle -/

theorem accounts_firstBoundary {s : State} (h : AtBoundary s) : Accounts s s.firstBoundary := by
  have hreading : SameDosing s { s with station := { s.station with readingBefore := some s.weigh.latest } } :=
    ⟨rfl, rfl, fun _ => rfl, rfl, rfl, rfl, rfl⟩
  exact hreading.accounts.trans (accounts_boundary ⟨h.notDosing, h.notLeaving, h.first⟩)

theorem keeps_firstBoundary (s : State) : Keeps s s.firstBoundary := (keeps_station s _).trans (keeps_boundary _)

theorem tinsTo_station (s : State) (z : Size) (n : Nat) : (s.tinsTo z n).station = s.station := by
  unfold State.tinsTo
  dsimp only
  split <;> rfl

theorem accounts_settleDraw {s : State} (hst : s.station.state = .weighing .draw) : Accounts s s.settleDraw := by
  have hb : BetweenRounds s.station.state := by simp [BetweenRounds, hst]
  unfold State.settleDraw
  split
  · exact Accounts.refl s
  · rename_i j hj
    split
    · split
      · exact accounts_betweenRounds hb (keeps_startReject s) accounts_startReject
      · split
        · rename_i hempty
          refine accounts_betweenRounds hb (keeps_becomeDosed s _) (fun h => accounts_becomeDosed h (stationJob_some hj).1 ?_)
          simp [List.isEmpty_iff.1 hempty]
        · exact accounts_betweenRounds hb (keeps_firstBoundary s) accounts_firstBoundary
    · rw [stationEmpty_jobUndrawn]
      have htins := accounts_tinsTo s j.size 0
      have hstate : (s.tinsTo j.size 0).station.state ≠ .dosing := by
        rw [tinsTo_station, hst]
        simp
      exact (htins.trans (accounts_stationEmpty hstate)).trans (accounts_jobUndrawn (not_attends_stationEmpty _ _))

theorem accounts_settleEnd {s t : State} (h : execSettleEnd s = .next t) : Accounts s t := by
  unfold execSettleEnd at h
  injection h with h
  subst h
  split
  · exact Accounts.refl s
  · split
    · rename_i hst
      exact (accounts_settleDraw hst).trans (accounts_conclude _)
    · rename_i hst
      exact (accounts_betweenRounds (by simp [BetweenRounds, hst]) (keeps_firstBoundary s) accounts_firstBoundary).trans
        (accounts_conclude _)
    · rename_i hst
      exact (accounts_judge hst).trans (accounts_conclude _)
    · exact Accounts.refl s

/-! ## The weigh cell -/

theorem accounts_takeReading (s : State) (count : Int) (ms : Nat) : Accounts s (s.takeReading count ms) :=
  accounts_of_eq rfl rfl rfl rfl

theorem accounts_autoTare (s : State) : Accounts s s.autoTare := by
  unfold State.autoTare
  split
  · rename_i h
    simp only [Bool.and_eq_true] at h
    exact accounts_tareState h.1.1.1 _ rfl
  · exact Accounts.refl s

theorem tares_of_watches {x : StationState} (h : x.watches = true) : x.tares = true := by
  cases x <;> simp [StationState.watches, StationState.tares] at h ⊢

theorem accounts_strayTest (s : State) : Accounts s s.strayTest := by
  unfold State.strayTest
  split
  · rename_i h
    simp only [Bool.and_eq_true] at h
    exact (accounts_tareState (tares_of_watches h.1.1) _ rfl).trans (accounts_post _ _ _ _ _)
  · exact Accounts.refl s

end Sys2Proof.ColourantBank
end

section
/-! PROOFS. The events of the mixers and of the lid press keep the bank's account: they touch no canister and no dose. -/
namespace Sys2Proof.ColourantBank

open Sys2Proof Sys2Proof.Machine

theorem accounts_ite {s t : State} {p : Prop} [Decidable p] (h : p → Accounts s t) : Accounts s (if p then t else s) := by
  split
  · exact h ‹_›
  · exact Accounts.refl s

theorem Accounts.conclude {s t : State} (h : Accounts s t) : Accounts s t.conclude := h.trans (accounts_conclude t)

theorem accounts_finishJob_of_ne {s : State} {t : Tag} {fin : JobState} (h : fin ≠ .cancelled) : Accounts s (s.finishJob t fin) :=
  accounts_finishJob fin (fun e => absurd e h)

/-! ## The Mixer Pool's events -/

theorem accounts_startMixRun (s : State) (k : MixerId) : Accounts s (s.startMixRun k) := by
  unfold State.startMixRun
  refine (accounts_setMixer s k { s.mixer k with state := .running 0 }).trans ?_
  unfold State.updateMixerJob
  split
  · exact Accounts.refl _
  · exact accounts_updateLive_of_doses (fun _ => rfl) (fun _ => rfl) (fun _ => rfl)

theorem accounts_mixRunComplete (s : State) (k : MixerId) : Accounts s (s.mixRunComplete k) := by
  unfold State.mixRunComplete
  split
  · exact accounts_ite (fun _ => (accounts_endMixRun s k _).conclude)
  · exact Accounts.refl s

theorem accounts_faultMixer (s : State) (k : MixerId) (j : Job) : Accounts s (s.faultMixer k j) :=
  ((accounts_setMixer s k _).trans (accounts_finishJob_of_ne (by simp))).trans (accounts_post _ _ _ _ _)

theorem accounts_imbalance (s : State) (k : MixerId) : Accounts s (s.imbalance k) := by
  unfold State.imbalance
  split
  · split
    · exact Accounts.refl s
    · split
      · exact accounts_setMixer s k _
      · exact (accounts_faultMixer s k _).conclude
  · exact Accounts.refl s

theorem accounts_handOver (s : State) (k : MixerId) : Accounts s (s.handOver k) := by
  unfold State.handOver
  split
  · exact Accounts.refl s
  · rename_i t _
    split
    · have hlane : Accounts s { s with press := { s.press with lane := s.press.lane ++ [t], heldPlaces := s.press.heldPlaces - 1 } } :=
        accounts_of_eq rfl rfl rfl rfl
      exact hlane.trans (accounts_jobMixed _ t)
    · exact accounts_finishJob_of_ne (by simp)

theorem accounts_endUnload (s : State) (k : MixerId) : Accounts s (s.endUnload k) :=
  (accounts_handOver s k).trans (accounts_setMixer _ k _)

/-! ## The Lid Press's events -/

theorem accounts_forceCheck (s : State) (j : Job) (force : Force) : Accounts s (s.forceCheck j force) := by
  have hcount : Accounts s ({ s with press := { s.press with lidInHead := false } }.updateLive j.tag
      (fun k => { k with lidAttempts := j.lidAttempts + 1 })) :=
    Accounts.trans (t := { s with press := { s.press with lidInHead := false } }) (accounts_of_eq rfl rfl rfl rfl)
      (accounts_updateLive_of_doses (fun _ => rfl) (fun _ => rfl) (fun _ => rfl))
  refine hcount.trans ?_
  unfold State.forceCheck
  cases force with
  | pass => exact accounts_of_eq rfl rfl rfl rfl
  | fail =>
    dsimp only
    split
    · split
      · exact accounts_startReseat _ _
      · exact accounts_setPress _ _
    · exact accounts_of_eq rfl rfl rfl rfl

theorem accounts_ejectJob (s : State) (t : Tag) (d : Destination) : Accounts s (s.ejectJob t d) := by
  cases d <;> exact accounts_finishJob_of_ne (by simp)

theorem accounts_endEjection (s : State) (d : Destination) : Accounts s (s.endEjection d) := by
  unfold State.endEjection
  split
  · exact Accounts.refl s
  · rename_i t _
    refine (accounts_ejectJob s t d).trans ?_
    dsimp only
    split <;> exact accounts_of_eq rfl rfl rfl rfl

end Sys2Proof.ColourantBank
end

section
/-! PROOFS. What the requests do to the bank's account: all but CANISTER_SET, REFILL and power-on only draw from it. -/
namespace Sys2Proof.ColourantBank

open Sys2Proof Sys2Proof.Machine

/-! ## The agreement of the bank, the drives and the station, whatever becomes of the canisters' fields -/

/-- A change that keeps the canisters in range and carries the agreement over. -/
structure Agrees (s t : State) : Prop where
  bank : s.bankOk → t.bankOk
  tags : (s.orders.jobs.map (·.tag)).Nodup → (t.orders.jobs.map (·.tag)).Nodup
  dosing : Sound s → t.DosingOk
  reserved : Sound s → s.ReservedOk → t.ReservedOk

theorem Accounts.agrees {s t : State} (h : Accounts s t) : Agrees s t := ⟨h.bank.bankOk, h.tags, h.dosing, h.reserved⟩

theorem Agrees.trans {s t u : State} (a : Agrees s t) (b : Agrees t u) : Agrees s u where
  bank h := b.bank (a.bank h)
  tags h := b.tags (a.tags h)
  dosing h := b.dosing ⟨a.bank h.bank, a.tags h.tags, a.dosing h⟩
  reserved h hr := b.reserved ⟨a.bank h.bank, a.tags h.tags, a.dosing h⟩ (a.reserved h hr)

theorem bankOk_setCanister {s : State} {c : CanisterId} {k : Canister} (hk : (s.canister c).inRange → k.inRange) (h : s.bankOk) :
    (s.setCanister c k).bankOk := fun e => by
  rw [State.setCanister_canister]
  split
  · exact hk (h c)
  · exact h e

/-- A canister out of service is written with its reserved steps kept (R57, R58). -/
theorem agrees_setCanister_out {s : State} {c : CanisterId} {k : Canister}
    (hout : ¬ ((s.canister c).state = .ready ∨ (s.canister c).state = .low)) (hk : (s.canister c).inRange → k.inRange)
    (hcovered : k.state = .ready ∨ k.state = .low → k.reserved ≤ k.usable) (hreserved : k.reserved = (s.canister c).reserved) :
    Agrees s (s.setCanister c k) where
  bank := bankOk_setCanister hk
  tags := id
  dosing h := dosingOk_setCanister_idle h.dosing (no_topUp_out hout h.dosing) hcovered
  reserved _ h := reservedOk_setCanister h hreserved

/-- The same where the canister's fields are only drawn from. -/
theorem accounts_setCanister_out {s : State} {c : CanisterId} {k : Canister} (hk : Drawn (s.canister c) k)
    (hout : ¬ ((s.canister c).state = .ready ∨ (s.canister c).state = .low))
    (hcovered : k.state = .ready ∨ k.state = .low → k.reserved ≤ k.usable) (hreserved : k.reserved = (s.canister c).reserved) :
    Accounts s (s.setCanister c k) :=
  accounts_setCanister_idle hk (fun h => no_topUp_out hout h.dosing) hcovered hreserved

/-- No jobs, no reserved steps and nothing being dosed: the agreement of a part that was reset (R63, R80, R108). -/
structure Idle (t : State) : Prop where
  jobs : t.orders.jobs = []
  reserved : ∀ c, (t.canister c).reserved = 0
  run : ∀ m r, (t.drive m).state ≠ .dosing r
  round : t.station.round = none
  first : t.station.firstRound = none
  job : t.station.job = none

theorem Idle.dosingOk {t : State} (h : Idle t) : t.DosingOk where
  covered c _ := by
    rw [h.reserved, topUpAsked_eq_zero (fun r hr => absurd hr (h.run _ r))]
    exact Nat.zero_le _
  runs m r hr := absurd hr (h.run m r)
  densities q hq := by rw [h.round] at hq; cases hq
  topUp f hf := by rw [h.first] at hf; cases hf
  job tag ht := by rw [h.job] at ht; cases ht

theorem Idle.reservedOk {t : State} (h : Idle t) : t.ReservedOk where
  reserved c := by rw [h.reserved, State.outstandingOn, h.jobs]; rfl
  codes j hj := by rw [h.jobs] at hj; cases hj
  runs m r hr := absurd hr (h.run m r)
  round q hq := by rw [h.round] at hq; cases hq
  due f hf := by rw [h.first] at hf; cases hf

/-! ## CANCEL and RELEASE -/

theorem findJob_some {s : State} {t : Tag} {j : Job} (h : s.findJob t = some j) : j ∈ s.orders.jobs ∧ j.tag = t :=
  ⟨List.mem_of_find?_eq_some h, by simpa using List.find?_some h⟩

theorem accounts_cancelQueued {s : State} {j : Job} (hj : j ∈ s.orders.jobs) (hq : j.state = .queued) :
    Accounts s (s.finishJob j.tag .cancelled) :=
  Accounts.of_sound (keeps_finishJob s _ _) (fun hs => accounts_finishJob _ (fun _ k hk hd => by
    obtain ⟨hmem, htag, -⟩ := liveJob_some hk
    rw [job_eq_of_tag hs.tags hmem hj htag, hq] at hd
    cases hd))

theorem accounts_setCancelPending (s : State) (t : Tag) : Accounts s (s.setCancelPending t) :=
  accounts_updateLive_of_doses (fun _ => rfl) (fun _ => rfl) (fun _ => rfl)

theorem accounts_release {s : State} {j : Job} (hj : j ∈ s.orders.jobs) (hf : j.finished = true) :
    Accounts s { s with orders := { s.orders with jobs := s.orders.jobs.filter (fun k => k.tag ≠ j.tag) } } :=
  accounts_dropFinished (fun hs k hk hdrop => by
    have htag : k.tag = j.tag := by simpa using hdrop
    rw [job_eq_of_tag hs.tags hk hj htag]
    exact hf)

/-! ## CANISTER_STATE -/

theorem accounts_offlinePending (s : State) (c : CanisterId) :
    Accounts s (s.setCanister c { s.canister c with offlinePending := true }) :=
  accounts_setCanister_same ⟨rfl, rfl, rfl, le_rfl, id⟩ rfl rfl rfl

theorem accounts_offline {s : State} {c : CanisterId} (h : ¬ s.running c = true) :
    Accounts s (s.setCanister c { s.canister c with state := .offline }) :=
  accounts_setCanister_idle ⟨rfl, rfl, rfl, le_rfl, id⟩
    (fun _ r hr hc => absurd ((running_iff s c).2 ⟨r, hr, hc⟩) h) (by simp) rfl

theorem accounts_examine {s : State} {c : CanisterId} (hout : ¬ ((s.canister c).state = .ready ∨ (s.canister c).state = .low)) :
    Accounts s (s.examine c) := by
  unfold State.examine
  dsimp only
  split
  · exact (accounts_setCanister_out (k := { s.canister c with state := .short .float, usable := 0 })
      ⟨rfl, rfl, rfl, Nat.zero_le _, id⟩ hout (by simp) rfl).trans (accounts_post _ _ _ _ _)
  · split
    · exact (accounts_setCanister_out (k := { s.canister c with state := .short .belowReserved })
        ⟨rfl, rfl, rfl, le_rfl, id⟩ hout (by simp) rfl).trans (accounts_post _ _ _ _ _)
    · exact accounts_setCanister_out ⟨rfl, rfl, rfl, le_rfl, id⟩ hout (fun _ => Nat.not_lt.1 ‹_›) rfl

theorem accounts_clearCheck {s : State} {c : CanisterId} (h : (s.canister c).state = .check) :
    Accounts s ((s.setCanister c { s.canister c with missCount := 0 }).examine c) :=
  (accounts_setCanister_same (k := { s.canister c with missCount := 0 })
    ⟨rfl, rfl, rfl, le_rfl, fun _ => Nat.zero_le _⟩ rfl rfl rfl).trans
    (accounts_examine (by simp [State.setCanister_canister, h]))

/-! ## Modes, settings, faults and RESET -/

theorem accounts_clearDrive {s : State} {m : Manifold} {x : FaultDetail} (h : (s.drive m).state = .faulted x) :
    Accounts s (s.setDrive m { s.drive m with state := .idle }) :=
  accounts_setDrive (by simp [Drive.run?, h])

theorem accounts_unhaltDrives (s : State) : Accounts s s.unhaltDrives :=
  SameDosing.accounts ⟨rfl, rfl, fun m => by cases m <;> rfl, rfl, rfl, rfl, rfl⟩

theorem accounts_resume (s : State) : Accounts s s.resume := by
  have hposted : Accounts s { s.unhaltDrives.post .estop 2 0 0 with
      line := { (s.unhaltDrives.post .estop 2 0 0).line with
        saved := none, resumeWake := s.line.resumeMode == LineMode.waking } } :=
    ((accounts_unhaltDrives s).trans (accounts_post s.unhaltDrives .estop 2 0 0)).trans (accounts_of_eq rfl rfl rfl rfl)
  unfold State.resume
  dsimp only
  split
  · exact hposted.trans (accounts_enterMode _ _)
  · exact ((hposted.trans (accounts_timerClear _)).trans (accounts_enterMode _ _)).trans (accounts_takeUp _)

theorem accounts_setStock (s : State) (i : Item) (z : Size) (n : Nat) : Accounts s (s.setStock i z n) := by
  cases i <;> exact accounts_of_eq rfl rfl rfl rfl

/-- What a fold over canisters, each written once by its own record, leaves in each. -/
theorem foldl_setCanister {f : Canister → Canister} (l : List CanisterId) (hl : l.Nodup) (s : State) (c : CanisterId) :
    ((l.foldl (fun (k : State) e => k.setCanister e (f (k.canister e))) s).canister c) =
      if c ∈ l then f (s.canister c) else s.canister c := by
  induction l generalizing s with
  | nil => simp
  | cons e l ih =>
    obtain ⟨hnot, hl⟩ := List.nodup_cons.1 hl
    rw [List.foldl_cons, ih hl, State.setCanister_canister]
    by_cases hc : c = e
    · subst hc
      simp [hnot]
    · simp [hc]

theorem resetBank_canister (s : State) (c : CanisterId) : s.resetBank.canister c = (s.canister c).softReset := by
  rw [State.resetBank, foldl_setCanister (f := Canister.softReset) _ (List.nodup_finRange 16) s c, if_pos (List.mem_finRange c)]

theorem softReset_canister (s : State) (c : CanisterId) : s.softReset.canister c = (s.canister c).softReset :=
  resetBank_canister s c

theorem drawn_softReset (k : Canister) : Drawn k k.softReset := drawn_retest ⟨rfl, rfl, rfl, le_rfl, id⟩

theorem idle_softReset (s : State) : Idle s.softReset where
  jobs := rfl
  reserved c := by
    rw [softReset_canister]
    exact Canister.retest_reserved _
  run m r hr := by
    have hd : (s.softReset.drive m).state = ((s.drive m).softReset s.line.estop).state := by cases m <;> rfl
    rw [hd, Drive.softReset] at hr
    revert hr
    dsimp only
    split
    · simp
    · rename_i hnot
      exact hnot r
  round := rfl
  first := rfl
  job := rfl

theorem accounts_softReset (s : State) : Accounts s s.softReset where
  bank c := by
    rw [softReset_canister]
    exact drawn_softReset _
  tags _ := List.nodup_nil
  dosing _ := (idle_softReset s).dosingOk
  reserved _ _ := (idle_softReset s).reservedOk

/-! ## CANISTER_SET and REFILL -/

/-- A canister as CANISTER_SET defines it (R58). -/
def defined (k : Canister) (code density usable lowMark : Nat) : Canister :=
  { k with code := code, density := clampTo 800 2500 density, usable := min Config.canisterSteps usable,
           lowMark := min Config.canisterSteps lowMark, missCount := 0 }

theorem agrees_define {s : State} {c : CanisterId} {code : Nat} (density usable lowMark : Nat) (hcode : code ≤ 250)
    (hoff : (s.canister c).state = .offline) :
    Agrees s (s.setCanister c (defined (s.canister c) code density usable lowMark)) := by
  refine agrees_setCanister_out (by simp [hoff]) (fun _ => ?_) (by simp [defined, hoff]) rfl
  simp only [Canister.inRange, defined, clampTo, Config.canisterSteps]
  omega

/-- A canister refilled by an amount (R57). -/
def refilled (k : Canister) (amount : Nat) : Canister :=
  { k with usable := min Config.canisterSteps (k.usable + amount) }.retest

theorem refilled_inRange {k : Canister} (amount : Nat) (h : k.inRange) : (refilled k amount).inRange := by
  refine (drawn_retest (Drawn.refl _)).inRange ?_
  obtain ⟨hcode, hlow, hhigh, -, hmark, hmiss⟩ := h
  exact ⟨hcode, hlow, hhigh, Nat.min_le_left _ _, hmark, hmiss⟩

theorem agrees_refill {s : State} {c : CanisterId} (amount : Nat)
    (hout : ¬ ((s.canister c).state = .ready ∨ (s.canister c).state = .low)) :
    Agrees s (s.setCanister c (refilled (s.canister c) amount)) :=
  agrees_setCanister_out hout (refilled_inRange amount) (retest_covered (fun h => absurd h hout)) (Canister.retest_reserved _)

end Sys2Proof.ColourantBank
end

section
/-! PROOFS. What the owner of each request kind decides: it accepts the request or changes nothing (O13), and what it accepts keeps the
bank's account. -/
namespace Sys2Proof.ColourantBank

open Sys2Proof Sys2Proof.Machine

/-! ## The owner of each request kind -/

/-- The owner that a request of a kind is dispatched to (R177). -/
def ownerOf : RequestKind → Body → State → Answer
  | .ident => State.identRequest
  | .order => State.orderRequest
  | .cancel => fun body s => s.withJob body s.cancelJob
  | .jobQuery => fun body s => s.withJob body (fun j => { result := .ok, fields := j.bytes, state := s })
  | .release => fun body s => s.withJob body s.releaseJob
  | .canisterSet => State.canisterSetRequest
  | .canisterState => State.canisterStateRequest
  | .refill => State.refillRequest
  | .canisterQuery => State.canisterQueryRequest
  | .stockLoad => State.stockLoadRequest
  | .stockSet => State.stockSetRequest
  | .lineSet => State.lineSetRequest
  | .lineMode => State.lineModeRequest
  | .lineResume => State.lineResumeRequest
  | .clearFault => State.clearFaultRequest
  | .lineQuery => State.lineQueryRequest
  | .fetch => State.fetchRequest
  | .reset => State.resetRequest

/-- A request command serves its owner. -/
theorem exec_request {i : Instr} {k : RequestKind} {body : Body} (h : requestOf i = some (k, body)) (s : State) :
    exec i s = .next (s.serve k body (ownerOf k body)) := by
  cases i <;> cases h <;> rfl

theorem exec_served {i : Instr} {k : RequestKind} {body : Body} (h : requestOf i = some (k, body)) {s : State}
    (hserves : s.link.serves k.code body = true) : exec i s = .next ((ownerOf k body s.beginService).send k) := by
  rw [exec_request h, State.serve_served hserves]

/-! ## Accepted with a change of a kind, or nothing changed (R178) -/

/-- An answer that leaves the state as it stood, or accepts the request and changes the state as `R` allows. -/
def Decides (R : State → State → Prop) (s : State) (a : Answer) : Prop :=
  a.state = s ∨ (a.result.accepted = true ∧ R s a.state)

theorem okOrClamped_accepted (b : Bool) : (okOrClamped b).accepted = true := by
  cases b <;> rfl

section
variable {R : State → State → Prop} {s : State}

theorem decides_withJob {f : Job → Answer} (h : ∀ j ∈ s.orders.jobs, Decides R s (f j)) (body : Body) :
    Decides R s (s.withJob body f) := by
  unfold State.withJob
  split
  · dsimp only
    split
    · exact .inl rfl
    · split
      · exact .inl rfl
      · rename_i hfound
        exact h _ (findJob_some hfound).1
  · exact .inl rfl

theorem decides_withCanister {f : CanisterId → Answer} (h : ∀ c, Decides R s (f c)) (b : Byte) :
    Decides R s (s.withCanister b f) := by
  unfold State.withCanister
  split
  · exact .inl rfl
  · exact h _

theorem decides_withStock {f : Item → Size → Answer} (h : ∀ i z, Decides R s (f i z)) (item size : Byte) :
    Decides R s (s.withStock item size f) := by
  unfold State.withStock
  split
  · exact .inl rfl
  · split
    · exact .inl rfl
    · exact h _ _

end

/-! ## The Order Table's requests -/

theorem decides_order (body : Body) (s : State) : Decides Accounts s (s.orderRequest body) := by
  unfold State.orderRequest
  split
  · exact .inl rfl
  · split
    · exact .inl rfl
    · split
      · exact .inl rfl
      · split
        · exact .inl rfl
        · rename_i hlive
          split
          · exact .inl rfl
          · dsimp only
            split
            · exact .inl rfl
            · exact .inl rfl
            · exact .inl rfl
            · rename_i hcalc
              exact .inr ⟨okOrClamped_accepted _, (accounts_admitJob hcalc (by simpa using hlive)).conclude⟩

theorem decides_cancelJob {s : State} {j : Job} (hj : j ∈ s.orders.jobs) : Decides Accounts s (s.cancelJob j) := by
  have hpending : Accounts s (if j.cancelPending then s else (s.setCancelPending j.tag).conclude) := by
    split
    · exact Accounts.refl s
    · exact (accounts_setCancelPending s j.tag).conclude
  unfold State.cancelJob
  split
  · rename_i hq
    exact .inr ⟨rfl, (accounts_cancelQueued hj hq).conclude⟩
  · exact .inr ⟨rfl, hpending⟩
  · exact .inr ⟨rfl, hpending⟩
  all_goals exact .inl rfl

theorem decides_releaseJob {s : State} {j : Job} (hj : j ∈ s.orders.jobs) : Decides Accounts s (s.releaseJob j) := by
  unfold State.releaseJob
  split
  · rename_i hf
    exact .inr ⟨rfl, accounts_release hj hf⟩
  · exact .inl rfl

/-! ## The Colourant Bank's requests -/

theorem decides_canisterOffline (s : State) (c : CanisterId) : Decides Accounts s (s.canisterOffline c) := by
  unfold State.canisterOffline
  dsimp only
  split
  · exact .inl rfl
  · split
    · exact .inl rfl
    · split
      · exact .inr ⟨rfl, (accounts_offlinePending s c).conclude⟩
      · rename_i hrunning
        exact .inr ⟨rfl, (accounts_offline hrunning).conclude⟩

theorem decides_canisterOnline (s : State) (c : CanisterId) : Decides Accounts s (s.canisterOnline c) := by
  unfold State.canisterOnline
  dsimp only
  split
  · exact .inl rfl
  · rename_i h
    have hout : ¬ ((s.canister c).state = .ready ∨ (s.canister c).state = .low) := by
      simp only [not_or, not_not] at h
      simp [h.1]
    split
    · exact .inr ⟨rfl, (accounts_setCanister_out (k := { s.canister c with state := .check })
        ⟨rfl, rfl, rfl, le_rfl, id⟩ hout (by simp) rfl).conclude⟩
    · exact .inr ⟨rfl, (accounts_examine hout).conclude⟩

theorem decides_canisterClearCheck (s : State) (c : CanisterId) : Decides Accounts s (s.canisterClearCheck c) := by
  unfold State.canisterClearCheck
  dsimp only
  split
  · exact .inl rfl
  · rename_i h
    exact .inr ⟨rfl, (accounts_clearCheck (not_not.1 h)).conclude⟩

theorem decides_canisterState (body : Body) (s : State) : Decides Accounts s (s.canisterStateRequest body) := by
  unfold State.canisterStateRequest
  split
  · refine decides_withCanister (fun c => ?_) _
    split
    · exact decides_canisterOffline s c
    · split
      · exact decides_canisterOnline s c
      · split
        · exact decides_canisterClearCheck s c
        · exact .inl rfl
  · exact .inl rfl

theorem decides_canisterQuery (body : Body) (s : State) : Decides Accounts s (s.canisterQueryRequest body) := by
  unfold State.canisterQueryRequest
  split
  · refine decides_withCanister (fun _ => ?_) _
    exact .inl rfl
  · exact .inl rfl

theorem decides_canisterSet (body : Body) (s : State) : Decides Agrees s (s.canisterSetRequest body) := by
  unfold State.canisterSetRequest
  split
  · refine decides_withCanister (fun c => ?_) _
    unfold State.setCanisterFields
    dsimp only
    split
    · exact .inl rfl
    · split
      · exact .inl rfl
      · rename_i hcode hstate
        simp only [not_or, not_not] at hstate
        exact .inr ⟨okOrClamped_accepted _, agrees_define _ _ _ (Nat.not_lt.1 hcode) hstate.1⟩
  · exact .inl rfl

theorem decides_refillCanister (s : State) (c : CanisterId) (amount : Nat) : Decides Agrees s (s.refillCanister c amount) := by
  unfold State.refillCanister
  dsimp only
  split
  · exact .inl rfl
  · split
    · exact .inl rfl
    · exact .inl rfl
    · exact .inl rfl
    · rename_i hst
      exact .inr ⟨okOrClamped_accepted _, (agrees_refill amount (by simp [hst])).trans (accounts_conclude _).agrees⟩
    · rename_i hst
      exact .inr ⟨okOrClamped_accepted _, (agrees_refill amount (by simp [hst])).trans (accounts_conclude _).agrees⟩

theorem decides_refill (body : Body) (s : State) : Decides Agrees s (s.refillRequest body) := by
  unfold State.refillRequest
  split
  · exact decides_withCanister (fun c => decides_refillCanister s c _) _
  · exact .inl rfl

/-! ## Magazine Counts' requests -/

theorem decides_storeStock (s : State) (item size : Byte) (i : Item) (z : Size) (n : Nat) :
    Decides Accounts s (s.storeStock item size i z n) :=
  .inr ⟨okOrClamped_accepted _, (accounts_setStock s i z _).conclude⟩

theorem decides_stockLoad (body : Body) (s : State) : Decides Accounts s (s.stockLoadRequest body) := by
  unfold State.stockLoadRequest
  split
  · refine decides_withStock (fun i z => ?_) _ _
    split
    · exact .inl rfl
    · exact decides_storeStock s _ _ i z _
  · exact .inl rfl

theorem decides_stockSet (body : Body) (s : State) : Decides Accounts s (s.stockSetRequest body) := by
  unfold State.stockSetRequest
  split
  · exact decides_withStock (fun i z => decides_storeStock s _ _ i z _) _ _
  · exact .inl rfl

/-! ## Line Mode Control's requests -/

theorem decides_lineSet (body : Body) (s : State) : Decides Accounts s (s.lineSetRequest body) := by
  unfold State.lineSetRequest
  split
  · refine .inr ⟨okOrClamped_accepted _, Accounts.trans (t := s.setSettings _) ?_ (accounts_clockTests _)⟩
    exact accounts_of_eq rfl rfl rfl rfl
  · exact .inl rfl

theorem decides_requestWork (s : State) (w : WorkMode) : Decides Accounts s (s.requestWork w) := by
  have hworking : Accounts s { s with line := { s.line with working := w } } := accounts_of_eq rfl rfl rfl rfl
  unfold State.requestWork
  dsimp only
  split
  · exact .inl rfl
  · exact .inr ⟨rfl, (hworking.trans (accounts_startWake _)).conclude⟩
  · exact .inr ⟨rfl, (hworking.trans (accounts_startWake _)).conclude⟩
  · exact .inr ⟨rfl, hworking⟩
  all_goals
    split
    · exact .inr ⟨rfl, hworking⟩
    · exact .inr ⟨rfl, (hworking.trans (accounts_enterMode _ _)).conclude⟩

theorem decides_requestSleep (s : State) : Decides Accounts s s.requestSleep := by
  unfold State.requestSleep
  split
  · exact .inl rfl
  · exact .inl rfl
  all_goals
    split
    · exact .inr ⟨rfl, (accounts_startSleep s).conclude⟩
    · exact .inl rfl

theorem decides_lineMode (body : Body) (s : State) : Decides Accounts s (s.lineModeRequest body) := by
  unfold State.lineModeRequest
  split
  · split
    · exact decides_requestWork s _
    · split
      · exact decides_requestWork s _
      · split
        · exact decides_requestSleep s
        · exact .inl rfl
  · exact .inl rfl

theorem decides_lineResume (body : Body) (s : State) : Decides Accounts s (s.lineResumeRequest body) := by
  unfold State.lineResumeRequest
  split
  · split
    · exact .inl rfl
    · split
      · exact .inl rfl
      · exact .inr ⟨rfl, (accounts_resume s).conclude⟩
  · exact .inl rfl

theorem decides_clearDrive (s : State) (m : Manifold) : Decides Accounts s (s.clearDrive m) := by
  unfold State.clearDrive
  dsimp only
  split
  · rename_i hst
    exact .inr ⟨rfl, (accounts_clearDrive hst).conclude⟩
  · exact .inl rfl

theorem decides_clearMixer (s : State) (k : MixerId) : Decides Accounts s (s.clearMixer k) := by
  unfold State.clearMixer
  dsimp only
  split
  · exact .inr ⟨rfl, (accounts_setMixer s k _).conclude⟩
  · exact .inl rfl

theorem decides_clearPress (s : State) : Decides Accounts s s.clearPress := by
  have hpress : Accounts s { s with press := { s.press with state := .idle, failures := 0 } } := accounts_of_eq rfl rfl rfl rfl
  unfold State.clearPress
  split
  · exact .inr ⟨rfl, hpress.conclude⟩
  · exact .inl rfl

theorem decides_clearFault (body : Body) (s : State) : Decides Accounts s (s.clearFaultRequest body) := by
  unfold State.clearFaultRequest
  split
  · split
    · exact decides_clearDrive s .a
    · split
      · exact decides_clearDrive s .b
      · split
        · exact decides_clearMixer s .m0
        · split
          · exact decides_clearMixer s .m1
          · split
            · exact decides_clearPress s
            · exact .inl rfl
  · exact .inl rfl

theorem decides_reset (body : Body) (s : State) : Decides Accounts s (s.resetRequest body) := by
  unfold State.resetRequest
  split
  · split
    · exact .inl rfl
    · exact .inr ⟨rfl, (accounts_softReset s).trans (accounts_stirTests _)⟩
  · exact .inl rfl

theorem decides_fetch (body : Body) (s : State) : Decides Accounts s (s.fetchRequest body) := by
  unfold State.fetchRequest
  split
  · exact .inr ⟨okOrClamped_accepted _, accounts_of_eq rfl rfl rfl rfl⟩
  · exact .inl rfl

theorem decides_ident (body : Body) (s : State) : Decides Accounts s (s.identRequest body) := by
  unfold State.identRequest
  split <;> exact .inl rfl

theorem decides_jobQuery (body : Body) (s : State) : Decides Accounts s (ownerOf .jobQuery body s) := by
  refine decides_withJob (fun j _ => ?_) body
  exact .inl rfl

theorem decides_lineQuery (body : Body) (s : State) : Decides Accounts s (s.lineQueryRequest body) := by
  unfold State.lineQueryRequest
  split <;> exact .inl rfl

/-! ## Every request -/

theorem decides_ownerOf {k : RequestKind} (hset : k ≠ .canisterSet) (hrefill : k ≠ .refill) (body : Body) (s : State) :
    Decides Accounts s (ownerOf k body s) := by
  cases k with
  | ident => exact decides_ident body s
  | order => exact decides_order body s
  | cancel => exact decides_withJob (fun _ hj => decides_cancelJob hj) body
  | jobQuery => exact decides_jobQuery body s
  | release => exact decides_withJob (fun _ hj => decides_releaseJob hj) body
  | canisterSet => exact absurd rfl hset
  | canisterState => exact decides_canisterState body s
  | refill => exact absurd rfl hrefill
  | canisterQuery => exact decides_canisterQuery body s
  | stockLoad => exact decides_stockLoad body s
  | stockSet => exact decides_stockSet body s
  | lineSet => exact decides_lineSet body s
  | lineMode => exact decides_lineMode body s
  | lineResume => exact decides_lineResume body s
  | clearFault => exact decides_clearFault body s
  | lineQuery => exact decides_lineQuery body s
  | fetch => exact decides_fetch body s
  | reset => exact decides_reset body s

theorem Decides.agrees {s : State} {a : Answer} (h : Decides Accounts s a) : Decides Agrees s a :=
  h.imp_right (fun ⟨haccepted, hchange⟩ => ⟨haccepted, hchange.agrees⟩)

theorem decides_ownerOf_agrees (k : RequestKind) (body : Body) (s : State) : Decides Agrees s (ownerOf k body s) := by
  by_cases hset : k = .canisterSet
  · subst hset
    exact decides_canisterSet body s
  · by_cases hrefill : k = .refill
    · subst hrefill
      exact decides_refill body s
    · exact (decides_ownerOf hset hrefill body s).agrees

/-! ## The reply to a request that is not accepted -/

theorem accepted_iff (r : Result) : r.accepted = true ↔ r.code ∈ acceptedCodes := by
  cases r <;> simp [Result.accepted, Result.code, acceptedCodes]

theorem send_reply (a : Answer) (k : RequestKind) :
    (a.send k).link.reply = some
      { kind := k.code + 0x80, code := a.result.code, count := countAfter k a.result a.state.link.actionCount,
        fields := a.fields } := rfl

theorem send_of_not_accepted {a : Answer} {k : RequestKind} {r : Reply} (hr : (a.send k).link.reply = some r)
    (h : ¬ a.result.accepted = true) :
    a.send k = { a.state with link := { a.state.link with reply := some r } } ∧ r.count = a.state.link.actionCount := by
  have hcount : countAfter k a.result a.state.link.actionCount = a.state.link.actionCount := by simp [countAfter, h]
  rw [send_reply, hcount] at hr
  injection hr with hr
  subst hr
  refine ⟨?_, rfl⟩
  rw [Answer.send, hcount]

/-- Settles O13: every owner either accepts the request or leaves the state, and a reply that does not accept leaves the count. -/
theorem refusedRequestChangesNothing : Obligations.RefusedRequestChangesNothing := by
  intro i k body s t r hreq hserves hexec hreply hcode
  rw [exec_served hreq hserves] at hexec
  injection hexec with hexec
  subst hexec
  have hresult : r.code = (ownerOf k body s.beginService).result.code := by
    rw [send_reply] at hreply
    injection hreply with hreply
    rw [← hreply]
  rw [hresult, ← accepted_iff] at hcode
  obtain ⟨heq, hcount⟩ := send_of_not_accepted hreply hcode
  rcases decides_ownerOf_agrees k body s.beginService with hstate | ⟨haccepted, -⟩
  · rw [hstate] at heq hcount
    exact ⟨heq, hcount⟩
  · exact absurd haccepted hcode

end Sys2Proof.ColourantBank
end

section
/-! PROOFS. Every command keeps the bank's account (O5), and only CANISTER_SET and REFILL raise a canister's usable steps (O11). -/
namespace Sys2Proof.ColourantBank

open Sys2Proof Sys2Proof.Machine

/-! ## Requests -/

theorem Decides.accounts {s : State} {a : Answer} (h : Decides Accounts s a) : Accounts s a.state := by
  rcases h with h | ⟨-, h⟩
  · rw [h]
    exact Accounts.refl s
  · exact h

theorem Decides.agrees_state {s : State} {a : Answer} (h : Decides Agrees s a) : Agrees s a.state := by
  rcases h with h | ⟨-, h⟩
  · rw [h]
    exact (Accounts.refl s).agrees
  · exact h

theorem accounts_beginService (s : State) : Accounts s s.beginService := accounts_of_eq rfl rfl rfl rfl

theorem accounts_waitService (s : State) (kind : Byte) (body : Body) : Accounts s (s.waitService kind body) :=
  accounts_of_eq rfl rfl rfl rfl

theorem accounts_send (a : Answer) (k : RequestKind) : Accounts a.state (a.send k) := accounts_of_eq rfl rfl rfl rfl

theorem accounts_serve {owner : State → Answer} (h : ∀ u, Decides Accounts u (owner u)) (s : State) (k : RequestKind) (body : Body) :
    Accounts s (s.serve k body owner) := by
  unfold State.serve
  split
  · exact ((accounts_beginService s).trans (h _).accounts).trans (accounts_send _ k)
  · exact accounts_waitService s _ body

theorem agrees_serve {owner : State → Answer} (h : ∀ u, Decides Agrees u (owner u)) (s : State) (k : RequestKind) (body : Body) :
    Agrees s (s.serve k body owner) := by
  unfold State.serve
  split
  · exact ((accounts_beginService s).agrees.trans (h _).agrees_state).trans (accounts_send _ k).agrees
  · exact (accounts_waitService s _ body).agrees

/-! ## Power-on -/

theorem powerOnValues_canister (estop : Bool) (floats : BitVec 16) (pending : List Instr) (c : CanisterId) :
    (State.powerOnValues estop floats pending).canister c = Canister.atPowerOn (floats.getLsbD c.val) := by
  simp [State.canister, State.powerOnValues]

theorem idle_powerOnValues (estop : Bool) (floats : BitVec 16) (pending : List Instr) :
    Idle (State.powerOnValues estop floats pending) where
  jobs := rfl
  reserved c := by rw [powerOnValues_canister]; rfl
  run m r hr := by cases m <;> cases hr
  round := rfl
  first := rfl
  job := rfl

theorem bankOk_powerOnValues (estop : Bool) (floats : BitVec 16) (pending : List Instr) :
    (State.powerOnValues estop floats pending).bankOk := fun c => by
  rw [powerOnValues_canister]
  simp [Canister.inRange, Canister.atPowerOn]

theorem agrees_powerOnValues (estop : Bool) (floats : BitVec 16) (s : State) :
    Agrees s (State.powerOnValues estop floats s.pending) where
  bank _ := bankOk_powerOnValues estop floats s.pending
  tags _ := List.nodup_nil
  dosing _ := (idle_powerOnValues estop floats s.pending).dosingOk
  reserved _ _ := (idle_powerOnValues estop floats s.pending).reservedOk

/-! ## The other commands -/

theorem accounts_endWake (s : State) : Accounts s s.endWake := by
  have htimer : Accounts s { s with line := { s.line with idle := s.line.timerAtWake, resumeWake := false } } :=
    accounts_of_eq rfl rfl rfl rfl
  exact (htimer.trans (accounts_enterMode _ _)).trans (accounts_takeUp _)

theorem accounts_link (s : State) (l : Link) : Accounts s { s with link := l } := accounts_of_eq rfl rfl rfl rfl

theorem accounts_serveLinkErr {s t : State} (h : execServeLinkErr s = .next t) : Accounts s t := by
  unfold execServeLinkErr at h
  split at h <;> injection h with h <;> subst h
  · exact accounts_link s _
  · exact Accounts.refl s

theorem accounts_unknownKind {s t : State} {kind : Byte} {body : Body} (h : execUnknownKind kind body s = .next t) :
    Accounts s t := by
  unfold execUnknownKind at h
  injection h with h
  subst h
  split
  · exact Accounts.refl s
  · split
    · exact (accounts_beginService s).trans (accounts_link _ _)
    · exact accounts_waitService s kind body

theorem accounts_gapTimerExpiry {s t : State} (h : execGapTimerExpiry s = .next t) : Accounts s t := by
  unfold execGapTimerExpiry at h
  injection h with h
  subst h
  split
  · exact Accounts.refl s
  · exact accounts_link s _

theorem accounts_feedEnd {s t : State} {present : Bool} (h : execFeedEnd present s = .next t) : Accounts s t := by
  unfold execFeedEnd at h
  injection h with h
  subst h
  refine accounts_ite (fun _ => ?_)
  split
  · exact accounts_setPress s _
  · split
    · exact Accounts.refl s
    · exact (accounts_lidMissing s _ .first).conclude

theorem accounts_reseatLidPresent {s t : State} {present : Bool} (h : execReseatLidPresent present s = .next t) :
    Accounts s t := by
  unfold execReseatLidPresent at h
  injection h with h
  subst h
  refine accounts_ite (fun _ => ?_)
  split
  · exact Accounts.refl s
  · exact (accounts_lidMissing s _ .retry).conclude

theorem accounts_seatEnd {s t : State} {force : Force} (h : execSeatEnd force s = .next t) : Accounts s t := by
  unfold execSeatEnd at h
  injection h with h
  subst h
  refine accounts_ite (fun _ => ?_)
  split
  · exact Accounts.refl s
  · exact (accounts_forceCheck s _ force).conclude

theorem accounts_ejectionEnd {s t : State} (h : execEjectionEnd s = .next t) : Accounts s t := by
  unfold execEjectionEnd at h
  injection h with h
  subst h
  split
  · split
    · exact Accounts.refl s
    · exact (accounts_endEjection s _).conclude
  · exact Accounts.refl s

theorem accounts_of_next {s t u : State} (h : (Host.Outcome.next u : Host.Outcome State Fault Refusal) = .next t)
    (a : Accounts s u) : Accounts s t := by
  injection h with h
  exact h ▸ a

theorem stationAt_state {s : State} {x : StationState} (h : s.stationAt x = true) : s.station.state = x := by
  rw [State.stationAt, Bool.and_eq_true] at h
  exact eq_of_beq h.1

/-- Every command that carries no request, but power-on. -/
theorem accounts_event {i : Instr} (hreq : requestOf i = none) (hpor : ∀ e f, i ≠ .powerOnReset e f) {s t : State}
    (h : exec i s = .next t) : Accounts s t := by
  cases i with
  | powerOnReset e f => exact absurd rfl (hpor e f)
  | lineClockTick => exact accounts_of_next h ((accounts_countSecond s).trans (accounts_clockTests _))
  | receiveByte b stopOk => exact accounts_of_next h (accounts_ite (fun _ => accounts_link s _))
  | gapTimerExpiry => exact accounts_gapTimerExpiry h
  | serveLinkErr => exact accounts_serveLinkErr h
  | unknownKind kind body => exact accounts_unknownKind h
  | estopAssertion => exact accounts_of_next h (accounts_assertEstop s)
  | estopRelease => exact accounts_of_next h (accounts_of_eq rfl rfl rfl rfl)
  | idleTimerExpiry => exact accounts_of_next h ((accounts_expiryTest s).trans (accounts_stirTests _))
  | wakeEnd => exact accounts_of_next h (accounts_ite (fun _ => (accounts_endWake s).conclude))
  | manifoldStale m => exact accounts_of_next h (accounts_staleTest s m)
  | stirStart m => exact accounts_of_next h (accounts_stirTest s m)
  | stirComplete m => exact accounts_of_next h (accounts_completeStir s m)
  | pumpStep m => exact accounts_of_next h (accounts_pump s m)
  | stall m => exact accounts_of_next h (accounts_stall s m)
  | floatTrip c => exact accounts_of_next h (accounts_floatTrip s c).conclude
  | floatClear c => exact accounts_of_next h (accounts_floatTested s c false).conclude
  | weighReading count ms =>
    exact accounts_of_next h (accounts_ite (fun _ =>
      (((accounts_takeReading s count ms).trans (accounts_autoTare _)).trans (accounts_strayTest _)).conclude))
  | strayLoad => exact accounts_of_next h (accounts_strayTest s)
  | stationSelect => exact accounts_of_next h ((accounts_select s).trans (accounts_noticePresence _))
  | drawEnd => exact accounts_of_next h (accounts_ite (fun hst => accounts_drawEnd (stationAt_state hst)))
  | unparkEnd => exact accounts_of_next h (accounts_ite (fun hst => (accounts_endUnpark (stationAt_state hst)).conclude))
  | settleEnd => exact accounts_settleEnd h
  | parkEnd => exact accounts_of_next h (accounts_ite (fun hst => (accounts_endPark (stationAt_state hst)).conclude))
  | dischargeEnd => exact accounts_of_next h (accounts_ite (fun hst => (accounts_endDischarge (stationAt_state hst)).conclude))
  | rejectEnd => exact accounts_of_next h (accounts_ite (fun hst => (accounts_endReject (stationAt_state hst)).conclude))
  | loadEnd k => exact accounts_of_next h (accounts_ite (fun _ => accounts_startMixRun s k))
  | mixRunComplete k => exact accounts_of_next h (accounts_mixRunComplete s k)
  | imbalance k => exact accounts_of_next h (accounts_imbalance s k)
  | reclampEnd k => exact accounts_of_next h (accounts_ite (fun _ => accounts_startMixRun s k))
  | unloadEnd k => exact accounts_of_next h (accounts_ite (fun _ => (accounts_endUnload s k).conclude))
  | feedEnd present => exact accounts_feedEnd h
  | reseatLidPresent present => exact accounts_reseatLidPresent h
  | seatEnd force => exact accounts_seatEnd h
  | ejectionEnd => exact accounts_ejectionEnd h
  | _ => cases hreq

/-! ## Every command -/

theorem requestOf_canisterSet {i : Instr} {b : Body} (h : requestOf i = some (.canisterSet, b)) : i = .canisterSet b := by
  cases i <;> cases h
  rfl

theorem requestOf_refill {i : Instr} {b : Body} (h : requestOf i = some (.refill, b)) : i = .refill b := by
  cases i <;> cases h
  rfl

theorem accounts_exec {i : Instr} (hpor : ∀ e f, i ≠ .powerOnReset e f) (hset : ∀ b, i ≠ .canisterSet b)
    (hrefill : ∀ b, i ≠ .refill b) {s t : State} (h : exec i s = .next t) : Accounts s t := by
  cases hreq : requestOf i with
  | none => exact accounts_event hreq hpor h
  | some request =>
    obtain ⟨k, body⟩ := request
    rw [exec_request hreq] at h
    refine accounts_of_next h (accounts_serve (fun u => decides_ownerOf (fun hk => ?_) (fun hk => ?_) body u) s k body)
    · exact hset body (requestOf_canisterSet (hk ▸ hreq))
    · exact hrefill body (requestOf_refill (hk ▸ hreq))

theorem agrees_exec {i : Instr} {s t : State} (h : exec i s = .next t) : Agrees s t := by
  by_cases hpor : ∃ e f, i = .powerOnReset e f
  · obtain ⟨e, f, rfl⟩ := hpor
    injection h with h
    exact h ▸ (agrees_powerOnValues e f s).trans (accounts_stirTests _).agrees
  · cases hreq : requestOf i with
    | none => exact (accounts_event hreq (fun e f hi => hpor ⟨e, f, hi⟩) h).agrees
    | some request =>
      obtain ⟨k, body⟩ := request
      rw [exec_request hreq] at h
      injection h with h
      exact h ▸ agrees_serve (fun u => decides_ownerOf_agrees k body u) s k body

/-- Power-on leaves every canister empty (R63). -/
theorem powerOn_usable (estop : Bool) (floats : BitVec 16) (s : State) (c : CanisterId) :
    ((State.powerOnValues estop floats s.pending).stirTests.canister c).usable = 0 := by
  have h := ((accounts_stirTests (State.powerOnValues estop floats s.pending)).bank c).usable
  rw [powerOnValues_canister] at h
  exact Nat.le_zero.1 h

/-- Settles O11: a change that keeps the bank's account only draws from a canister, and power-on empties it. -/
theorem usableRaisedOnlyByRefillOrSet : Obligations.UsableRaisedOnlyByRefillOrSet := by
  intro i s t c h
  by_cases hset : ∃ b, i = .canisterSet b
  · exact .inr (.inr hset)
  · by_cases hrefill : ∃ b, i = .refill b
    · exact .inr (.inl hrefill)
    · refine .inl ?_
      by_cases hpor : ∃ e f, i = .powerOnReset e f
      · obtain ⟨e, f, rfl⟩ := hpor
        injection h with h
        rw [← h, powerOn_usable]
        exact Nat.zero_le _
      · have haccounts := accounts_exec (fun e f hi => hpor ⟨e, f, hi⟩) (fun b hi => hset ⟨b, hi⟩)
          (fun b hi => hrefill ⟨b, hi⟩) h
        exact (haccounts.bank c).usable

theorem agrees_step {s t : State} (h : step s = .next t) : Agrees s t := by
  unfold step at h
  split at h
  · injection h with h
    exact h ▸ (Accounts.refl s).agrees
  · rename_i i rest _
    have hrest : Accounts s { s with pending := rest } := accounts_of_eq rfl rfl rfl rfl
    exact hrest.agrees.trans (agrees_exec h)

/-! ## The sum of R47 over the records of QUEUED, DOSING and PARKED jobs -/

theorem reserves_iff (j : Job) : (j.state == .queued || j.state == .dosing || j.isParked) = j.state.reserves := by
  unfold Job.isParked JobState.reserves
  cases j.state <;> rfl

theorem sum_outstandingOn (l : List Job) (c : CanisterId) :
    (l.map (·.outstandingOn c)).sum = ((l.filter (fun j =>
      j.state == .queued || j.state == .dosing || j.isParked)).flatMap (fun j =>
        (j.doses.filter (fun d => d.canister == c)).map (·.outstanding))).sum := by
  simp only [reserves_iff]
  induction l with
  | nil => rfl
  | cons j l ih =>
    rw [List.map_cons, List.sum_cons, ih, Job.outstandingOn]
    by_cases h : j.state.reserves = true
    · simp [h, beq_eq_decide]
    · simp [h]

/-- Settles O5: every command carries the range, the agreement and the account over. -/
theorem bankKeptInRange : Obligations.BankKeptInRange := by
  refine ⟨fun s t hb h => (agrees_step h).bank hb, fun s t hb htable hd h => (agrees_step h).dosing ⟨hb, htable.2, hd⟩,
    fun s t hb htable hd hr h => ?_⟩
  have hreserved := (agrees_step h).reserved ⟨hb, htable.2, hd⟩ hr
  exact ⟨hreserved, fun c => (hreserved.reserved c).trans (sum_outstandingOn _ c)⟩

end Sys2Proof.ColourantBank
end

section
/-! PROOFS. The Colourant Bank's requests, case by case: CANISTER_SET (O31), CANISTER_STATE (O32) and REFILL (O33). -/
namespace Sys2Proof.ColourantBank

open Sys2Proof Sys2Proof.Machine

/-! ## The canister index (R52) -/

theorem withCanister_of_index {b : Byte} {c : CanisterId} (h : b.toNat = c.val) (s : State) (f : CanisterId → Answer) :
    s.withCanister b f = f c := by
  simp only [State.withCanister, canisterOf_some h]

theorem withCanister_above {b : Byte} (h : 16 ≤ b.toNat) (s : State) (f : CanisterId → Answer) :
    s.withCanister b f = s.refuseField .badField 1 0 := by
  simp only [State.withCanister, canisterOf_none h]

/-- What a served request comes to, from what its owner decides. -/
theorem exec_answered {i : Instr} {k : RequestKind} {body : Body} (hreq : requestOf i = some (k, body)) {s : State}
    (hserves : s.link.serves k.code body = true) {a : Answer} (h : ownerOf k body s.beginService = a) :
    exec i s = .next (a.state.answered k a.result a.fields) := by
  rw [exec_served hreq hserves, h, Answer.send_eq]

/-! ## CANISTER_SET (R58) -/

theorem setCanisterFields_of_code_above {s : State} {c : CanisterId} {code : Nat} (h : 250 < code) (density usable lowMark : Nat) :
    s.setCanisterFields c code density usable lowMark = s.refuseField .badField 2 0 := by
  rw [State.setCanisterFields, if_pos h]

theorem setCanisterFields_of_in_use {s : State} {c : CanisterId} {code : Nat} (hcode : code ≤ 250)
    (h : (s.canister c).state ≠ .offline ∨ 0 < (s.canister c).reserved) (density usable lowMark : Nat) :
    s.setCanisterFields c code density usable lowMark = s.refuse .wrongState := by
  rw [State.setCanisterFields, if_neg (Nat.not_lt.2 hcode), if_pos h]

theorem setCanisterFields_of_free {s : State} {c : CanisterId} {code : Nat} (hcode : code ≤ 250)
    (hstate : (s.canister c).state = .offline) (hreserved : (s.canister c).reserved = 0) (density usable lowMark : Nat) :
    s.setCanisterFields c code density usable lowMark =
      { result := okOrClamped (outside 800 2500 density || Config.canisterSteps < usable || Config.canisterSteps < lowMark)
        fields := enc1 code ++ enc2 (clampTo 800 2500 density) ++ enc4 (min Config.canisterSteps usable) ++
          enc4 (min Config.canisterSteps lowMark)
        state := s.setCanister c (defined (s.canister c) code density usable lowMark) } := by
  rw [State.setCanisterFields, if_neg (Nat.not_lt.2 hcode), if_neg (by simp [hstate, hreserved])]
  rfl

theorem clampTo_density (d : Nat) : clampTo 800 2500 d = if d < 800 then 800 else if 2500 < d then 2500 else d := by
  unfold clampTo
  split_ifs <;> omega

theorem min_canisterSteps (n : Nat) : min Config.canisterSteps n = if 600000 < n then 600000 else n := by
  unfold Config.canisterSteps
  split_ifs <;> omega

/-- CLAMPED where a field was brought into its range. -/
theorem okOrClamped_defined (d u l : Nat) :
    okOrClamped (outside 800 2500 d || Config.canisterSteps < u || Config.canisterSteps < l) =
      if clampTo 800 2500 d = d ∧ min Config.canisterSteps u = u ∧ min Config.canisterSteps l = l then .ok else .clamped := by
  have hin : (outside 800 2500 d || Config.canisterSteps < u || Config.canisterSteps < l) = true ↔
      ¬ (clampTo 800 2500 d = d ∧ min Config.canisterSteps u = u ∧ min Config.canisterSteps l = l) := by
    simp only [outside, Bool.or_eq_true, decide_eq_true_eq]
    unfold clampTo Config.canisterSteps
    constructor <;> intro h <;> omega
  by_cases h : (outside 800 2500 d || Config.canisterSteps < u || Config.canisterSteps < l) = true
  · rw [if_neg (hin.1 h), okOrClamped, if_pos h]
  · rw [if_pos (not_not.1 (mt hin.2 h)), okOrClamped, if_neg h]

/-- Settles O31: the index, then the four cases of R58. -/
theorem canisterSetDefines : Obligations.CanisterSetDefines := by
  intro s i code d1 d0 u3 u2 u1 u0 l3 l2 l1 l0 body d u l d' u' l' hserves
  have hexec := fun {a : Answer} => exec_answered (i := .canisterSet body) (a := a) rfl hserves
  refine ⟨fun hi => hexec (withCanister_above hi _ _), fun c hc => ?_⟩
  have howner : ownerOf .canisterSet body s.beginService = s.beginService.setCanisterFields c code.toNat d u l :=
    withCanister_of_index hc _ _
  refine ⟨fun hcode => hexec (howner.trans (setCanisterFields_of_code_above hcode d u l)),
    fun hcode huse => hexec (howner.trans (setCanisterFields_of_in_use (s := s.beginService) hcode huse d u l)),
    fun hcode hstate hreserved => ?_⟩
  rw [hexec (howner.trans (setCanisterFields_of_free (s := s.beginService) hcode hstate hreserved d u l)), okOrClamped_defined]
  simp only [defined, clampTo_density, min_canisterSteps]
  rfl

/-! ## CANISTER_STATE (R52, R53, R55, R56) -/

theorem setCanister_setCanister (s : State) (c : CanisterId) (k l : Canister) :
    (s.setCanister c k).setCanister c l = s.setCanister c l := by
  simp [State.setCanister]

theorem setCanister_self (s : State) (c : CanisterId) : s.setCanister c (s.canister c) = s := by
  simp [State.setCanister, State.canister]

theorem canister_setCanister_self (s : State) (c : CanisterId) (k : Canister) : (s.setCanister c k).canister c = k := by
  rw [State.setCanister_canister, if_pos rfl]

theorem canister_post (s : State) (x : ReportKind) (d j v : Nat) (c : CanisterId) : (s.post x d j v).canister c = s.canister c := rfl

section
variable {s : State} {c : CanisterId} {k : Canister}

theorem answer_examine_tripped (h : k.tripped = true) :
    ((s.setCanister c k).examine c).answerState c .ok true =
      { result := .ok, fields := [3, 1],
        state := ((s.setCanister c { k with state := .short .float, usable := 0 }).post .canisterShort 1 c.val 0).conclude } := by
  have hexamine : (s.setCanister c k).examine c =
      (s.setCanister c { k with state := .short .float, usable := 0 }).post .canisterShort 1 c.val 0 := by
    simp only [State.examine, canister_setCanister_self, h, if_true, setCanister_setCanister]
    rfl
  rw [hexamine, State.answerState, canister_post, canister_setCanister_self]
  rfl

theorem answer_examine_belowReserved (h : k.tripped = false) (hlow : k.usable < k.reserved) :
    ((s.setCanister c k).examine c).answerState c .ok true =
      { result := .ok, fields := [3, 2],
        state := ((s.setCanister c { k with state := .short .belowReserved }).post .canisterShort 2 c.val k.usable).conclude } := by
  have hexamine : (s.setCanister c k).examine c =
      (s.setCanister c { k with state := .short .belowReserved }).post .canisterShort 2 c.val k.usable := by
    simp only [State.examine, canister_setCanister_self, h, hlow, if_true, setCanister_setCanister]
    rfl
  rw [hexamine, State.answerState, canister_post, canister_setCanister_self]
  rfl

theorem answer_examine_in_service (h : k.tripped = false) (hcovered : k.reserved ≤ k.usable) :
    ((s.setCanister c k).examine c).answerState c .ok true =
      { result := .ok, fields := [if k.usable < k.lowMark then 2 else 1, 0],
        state := (s.setCanister c { k with state := if k.usable < k.lowMark then .low else .ready }).conclude } := by
  have hexamine : (s.setCanister c k).examine c =
      s.setCanister c { k with state := if k.usable < k.lowMark then .low else .ready } := by
    simp only [State.examine, canister_setCanister_self, h, Nat.not_lt.2 hcovered, if_false, setCanister_setCanister]
    rfl
  rw [hexamine, State.answerState, canister_setCanister_self]
  split <;> rfl

end

section
variable {s : State} {c : CanisterId}

theorem canisterOffline_of_offline (h : (s.canister c).state = .offline) : s.canisterOffline c = s.answerState c .ok false := by
  rw [State.canisterOffline, if_pos h]

theorem canisterOffline_of_pending (h : (s.canister c).state ≠ .offline) (hp : (s.canister c).offlinePending = true) :
    s.canisterOffline c = s.answerState c .deferred false := by
  rw [State.canisterOffline, if_neg h, if_pos hp]

theorem canisterOffline_of_free (h : (s.canister c).state ≠ .offline) (hp : (s.canister c).offlinePending = false)
    (hr : s.running c = false) :
    s.canisterOffline c = (s.setCanister c { s.canister c with state := .offline }).answerState c .ok true := by
  rw [State.canisterOffline, if_neg h, if_neg (by simp [hp]), if_neg (by simp [hr])]

theorem canisterOffline_of_running (h : (s.canister c).state ≠ .offline) (hp : (s.canister c).offlinePending = false)
    (hr : s.running c = true) :
    s.canisterOffline c = (s.setCanister c { s.canister c with offlinePending := true }).answerState c .deferred true := by
  rw [State.canisterOffline, if_neg h, if_neg (by simp [hp]), if_pos hr]

theorem canisterOnline_of_refused
    (h : (s.canister c).state ≠ .offline ∨ (s.canister c).offlinePending = true ∨ (s.canister c).code = 0) :
    s.canisterOnline c = s.answerState c .wrongState false := by
  rw [State.canisterOnline, if_pos h]

theorem canisterOnline_of_check (hstate : (s.canister c).state = .offline) (hp : (s.canister c).offlinePending = false)
    (hcode : (s.canister c).code ≠ 0) (hmiss : (s.canister c).missCount = 3) :
    s.canisterOnline c = (s.setCanister c { s.canister c with state := .check }).answerState c .ok true := by
  rw [State.canisterOnline, if_neg (by simp [hstate, hp, hcode]), if_pos hmiss]

theorem canisterOnline_of_examined (hstate : (s.canister c).state = .offline) (hp : (s.canister c).offlinePending = false)
    (hcode : (s.canister c).code ≠ 0) (hmiss : (s.canister c).missCount ≠ 3) :
    s.canisterOnline c = ((s.setCanister c (s.canister c)).examine c).answerState c .ok true := by
  rw [State.canisterOnline, if_neg (by simp [hstate, hp, hcode]), if_neg hmiss, setCanister_self]

theorem canisterClearCheck_of_not_check (h : (s.canister c).state ≠ .check) :
    s.canisterClearCheck c = s.answerState c .wrongState false := by
  rw [State.canisterClearCheck, if_pos h]

theorem canisterClearCheck_of_check (h : (s.canister c).state = .check) :
    s.canisterClearCheck c = ((s.setCanister c { s.canister c with missCount := 0 }).examine c).answerState c .ok true := by
  rw [State.canisterClearCheck, if_neg (by simp [h])]

end

theorem canisterState_request {i a : Byte} {c : CanisterId} (h : i.toNat = c.val) (s : State) :
    ownerOf .canisterState [i, a] s = if a = 1 then s.canisterOffline c else if a = 2 then s.canisterOnline c
      else if a = 3 then s.canisterClearCheck c else s.refuseField .badField 2 0 :=
  withCanister_of_index h s _

/-- Settles O32: the index, then each action by the canister's state and flags. -/
theorem canisterStateActions : Obligations.CanisterStateActions := by
  refine ⟨fun s i a hi hserves => ?_, fun s i a c hc hserves => ?_⟩
  · have hexec : exec (.canisterStateOffline [i, a]) s = _ := exec_answered rfl hserves (withCanister_above hi _ _)
    exact ⟨hexec, hexec, hexec⟩
  intro k b off on clr codes level
  have hexec : ∀ {x : Answer}, ownerOf .canisterState [i, a] b = x →
      off = .next (x.state.answered .canisterState x.result x.fields) := fun h => exec_answered rfl hserves h
  have hrequest := canisterState_request (a := a) hc b
  have hcodes : ∀ r, b.answerState c r false = { result := r, fields := codes, state := b } := fun _ => rfl
  refine ⟨⟨rfl, rfl⟩, fun ha => ?_, fun ha => ?_, fun ha => ?_, fun h1 h2 h3 => ?_⟩
  · rw [if_pos ha] at hrequest
    refine ⟨fun hstate => ?_, fun hstate hp => ?_, fun hstate hp hr => ?_, fun hstate hp hr => ?_⟩
    · exact hexec (hrequest.trans ((canisterOffline_of_offline (s := b) hstate).trans (hcodes _)))
    · exact hexec (hrequest.trans ((canisterOffline_of_pending (s := b) hstate hp).trans (hcodes _)))
    · rw [hexec (hrequest.trans (canisterOffline_of_free (s := b) hstate hp hr)), State.answerState, canister_setCanister_self]
      rfl
    · rw [hexec (hrequest.trans (canisterOffline_of_running (s := b) hstate hp hr)), State.answerState, canister_setCanister_self]
      rfl
  · rw [if_neg (by rw [ha]; decide), if_pos ha] at hrequest
    refine ⟨fun h => hexec (hrequest.trans ((canisterOnline_of_refused (s := b) h).trans (hcodes _))), fun hstate hp hcode =>
      ⟨fun hmiss => ?_, fun hmiss ht => ?_, fun hmiss ht hlow => ?_, fun hmiss ht hcovered => ?_⟩⟩
    · rw [show on = off from rfl, hexec (hrequest.trans (canisterOnline_of_check (s := b) hstate hp hcode hmiss)), State.answerState,
        canister_setCanister_self]
      rfl
    · exact hexec (hrequest.trans ((canisterOnline_of_examined (s := b) hstate hp hcode hmiss).trans (answer_examine_tripped ht)))
    · exact hexec (hrequest.trans ((canisterOnline_of_examined (s := b) hstate hp hcode hmiss).trans
        (answer_examine_belowReserved ht hlow)))
    · exact hexec (hrequest.trans ((canisterOnline_of_examined (s := b) hstate hp hcode hmiss).trans
        (answer_examine_in_service ht hcovered)))
  · rw [if_neg (by rw [ha]; decide), if_neg (by rw [ha]; decide), if_pos ha] at hrequest
    refine ⟨fun h => hexec (hrequest.trans ((canisterClearCheck_of_not_check (s := b) h).trans (hcodes _))), fun hstate ht => ?_,
      fun hstate ht hlow => ?_, fun hstate ht hcovered => ?_⟩
    · exact hexec (hrequest.trans ((canisterClearCheck_of_check (s := b) hstate).trans (answer_examine_tripped ht)))
    · exact hexec (hrequest.trans ((canisterClearCheck_of_check (s := b) hstate).trans (answer_examine_belowReserved ht hlow)))
    · exact hexec (hrequest.trans ((canisterClearCheck_of_check (s := b) hstate).trans (answer_examine_in_service ht hcovered)))
  · rw [if_neg h1, if_neg h2, if_neg h3] at hrequest
    exact hexec hrequest

end Sys2Proof.ColourantBank
end

section
/-! PROOFS. REFILL (O33) and the float events (O34): both rest on the test of a SHORT canister for a return to service. -/
namespace Sys2Proof.ColourantBank

open Sys2Proof Sys2Proof.Machine

/-! ## The test of a SHORT canister (R51) -/

section
variable {k : Canister} {x : ShortCause}

theorem retest_of_tripped (h : k.state = .short x) (ht : k.tripped = true) : k.retest = { k with state := .short .float } := by
  simp only [Canister.retest, h, ht, if_true]

theorem retest_of_belowReserved (h : k.state = .short x) (ht : k.tripped = false) (hlow : k.usable < k.reserved) :
    k.retest = { k with state := .short .belowReserved } := by
  simp only [Canister.retest, h, ht, Nat.not_le.2 hlow, if_false, Bool.false_eq_true]

theorem retest_of_covered (h : k.state = .short x) (ht : k.tripped = false) (hcovered : k.reserved ≤ k.usable) :
    k.retest = { k with state := if k.usable < k.lowMark then .low else .ready } := by
  simp only [Canister.retest, h, ht, hcovered, if_true, if_false, Bool.false_eq_true]
  rfl

theorem retest_to_low (h : k.state = .short x) (ht : k.tripped = false) (hcovered : k.reserved ≤ k.usable)
    (hlow : k.usable < k.lowMark) : k.retest = { k with state := .low } := by
  rw [retest_of_covered h ht hcovered, if_pos hlow]

theorem retest_to_ready (h : k.state = .short x) (ht : k.tripped = false) (hcovered : k.reserved ≤ k.usable)
    (hmark : k.lowMark ≤ k.usable) : k.retest = { k with state := .ready } := by
  rw [retest_of_covered h ht hcovered, if_neg (Nat.not_lt.2 hmark)]

end

/-! ## REFILL (R57) -/

section
variable {s : State} {c : CanisterId} {n : Nat}

theorem refillCanister_of_amount (h : n = 0 ∨ 600000 < n) : s.refillCanister c n = s.refuseField .badField 2 0 := by
  rw [State.refillCanister, if_pos (show n = 0 ∨ Config.canisterSteps < n from h)]

theorem refillCanister_of_in_use (hpos : 1 ≤ n) (hn : n ≤ 600000)
    (h : (s.canister c).state = .ready ∨ (s.canister c).state = .low ∨ (s.canister c).state = .check) :
    s.refillCanister c n = { result := .wrongState, fields := (s.canister c).refillFields, state := s } := by
  rw [State.refillCanister, if_neg (by unfold Config.canisterSteps; omega)]
  rcases h with h | h | h <;> rw [h]

theorem refillCanister_of_out (hpos : 1 ≤ n) (hn : n ≤ 600000)
    (h : (s.canister c).state = .offline ∨ ∃ x, (s.canister c).state = .short x) :
    s.refillCanister c n =
      { result := okOrClamped (Config.canisterSteps < (s.canister c).usable + n)
        fields := (refilled (s.canister c) n).refillFields
        state := (s.setCanister c (refilled (s.canister c) n)).conclude } := by
  rw [State.refillCanister, if_neg (by unfold Config.canisterSteps; omega)]
  rcases h with h | ⟨x, h⟩ <;> simp only [h, refilled]

end

theorem refillFields_of_in_use {k : Canister} (h : k.state = .ready ∨ k.state = .low ∨ k.state = .check) :
    k.refillFields = enc1 k.state.code ++ [0] ++ enc4 k.usable := by
  rcases h with h | h | h <;> rw [Canister.refillFields, h] <;> rfl

/-- The usable steps after a refill, up to the capacity (R57). -/
theorem refill_usable (k : Canister) (n : Nat) :
    min Config.canisterSteps (k.usable + n) = if 600000 < k.usable + n then 600000 else k.usable + n := min_canisterSteps _

/-- Settles O33: the index, the amount, and the canister's state. -/
theorem refillAddsSteps : Obligations.RefillAddsSteps := by
  refine ⟨fun s i a3 a2 a1 a0 hi hserves => exec_answered rfl hserves (withCanister_above hi _ _),
    fun s i a3 a2 a1 a0 c hc hserves => ?_⟩
  intro k n u r go b
  have hexec : ∀ {a : Answer}, b.refillCanister c n = a → go = .next (a.state.answered .refill a.result a.fields) :=
    fun h => exec_answered rfl hserves ((withCanister_of_index hc b _).trans h)
  have hresult : okOrClamped (Config.canisterSteps < k.usable + n) = r := by
    by_cases h : 600000 < k.usable + n
    · simp only [r, okOrClamped, Config.canisterSteps, h, decide_true, if_true]
    · simp only [r, okOrClamped, Config.canisterSteps, h, decide_false, if_false, Bool.false_eq_true]
  have hraised : (k.state = .offline ∨ ∃ x, k.state = .short x) → 1 ≤ n → n ≤ 600000 → ∀ {l : Canister} {f : List Byte},
      ({ k with usable := u } : Canister).retest = l → l.refillFields = f →
      go = .next ((b.setCanister c l).conclude.answered .refill r f) := fun hst hpos hn l f hl hf => by
    have hlevel : refilled (b.canister c) n = l := by
      rw [← hl, refilled, refill_usable]
      rfl
    rw [hexec (refillCanister_of_out hpos hn hst), hlevel, hf]
    exact congrArg (fun x => Host.Outcome.next ((b.setCanister c l).conclude.answered .refill x f)) hresult
  refine ⟨fun hn => hexec (refillCanister_of_amount hn), fun hpos hn => ⟨fun huse => ?_, fun hoff => ?_, fun x hx ht => ?_,
    fun x hx ht hlow => ?_, fun x hx ht hcov hlow => ?_, fun x hx ht hcov hmark => ?_⟩⟩
  · rw [hexec (refillCanister_of_in_use hpos hn huse)]
    exact congrArg (fun f => Host.Outcome.next (b.answered .refill .wrongState f)) (refillFields_of_in_use huse)
  · exact hraised (.inl hoff) hpos hn (retest_of_not_short (by simp [hoff])) (by rw [Canister.refillFields, hoff]; rfl)
  · exact hraised (.inr ⟨x, hx⟩) hpos hn (retest_of_tripped hx ht) rfl
  · exact hraised (.inr ⟨x, hx⟩) hpos hn (retest_of_belowReserved hx ht hlow) rfl
  · exact hraised (.inr ⟨x, hx⟩) hpos hn (retest_to_low hx ht hcov hlow) rfl
  · exact hraised (.inr ⟨x, hx⟩) hpos hn (retest_to_ready hx ht hcov hmark) rfl

/-! ## Float events (R49, R50, R51) -/

/-- Settles O34: a trip in service and out of service, and a clear, by the canister's state. -/
theorem floatEvents : Obligations.FloatEvents := by
  intro s c k short
  have htested : ¬ (k.state = .ready ∨ k.state = .low) → ∀ l, ({ k with tripped := true } : Canister).retest = l →
      exec (.floatTrip c) s = .next (s.setCanister c l).conclude := fun h l hl => by
    rw [← hl]
    exact congrArg (fun u => Host.Outcome.next (State.conclude u)) (floatTrip_of_not_serving h)
  have hcleared : ∀ l, ({ k with tripped := false } : Canister).retest = l →
      exec (.floatClear c) s = .next (s.setCanister c l).conclude := fun l hl => by
    rw [← hl]
    rfl
  have htrip : ∀ u, s.floatTrip c = u → exec (.floatTrip c) s = .next u.conclude := fun u hu => by
    rw [← hu]
    rfl
  refine ⟨fun h hr => htrip _ ?_, fun h hr => htrip _ ?_, fun x hx => htested (by simp [hx]) _ (retest_of_tripped hx rfl),
    fun h => htested (by rcases h with h | h <;> simp [h]) _ (retest_of_not_short ?_),
    fun x hx hlow => hcleared _ (retest_of_belowReserved hx rfl hlow),
    fun x hx hcovered => hcleared _ (retest_of_covered hx rfl hcovered), fun h => hcleared _ (retest_of_not_short h)⟩
  · rw [floatTrip_of_serving h, if_neg (by simp [hr])]
    rfl
  · rw [floatTrip_of_serving h, if_pos hr]
    rfl
  · rcases h with h | h <;> simp [h]

end Sys2Proof.ColourantBank
end

section
/-! PROOFS. Run ends at the bank, at the station and at the drive, and verdict notices (O35). -/
namespace Sys2Proof.ColourantBank

open Sys2Proof Sys2Proof.Machine

/-! ## A run end at the bank (R44, R45, R46, R51, R54) -/

section
variable {k : Canister} {n : Nat} {topUp : Bool}

theorem reexamine_offlinePending (k : Canister) : k.reexamine.offlinePending = k.offlinePending := by
  unfold Canister.reexamine Canister.retest
  repeat' split
  all_goals rfl

theorem runEnded_of_pending (h : k.offlinePending = true) :
    (runEnded k n topUp).state = .offline ∧ (runEnded k n topUp).offlinePending = false := by
  have hp : (k.charge n topUp).reexamine.offlinePending = true := (reexamine_offlinePending _).trans h
  rw [runEnded, Canister.completeOffline, if_pos hp]
  exact ⟨rfl, rfl⟩

theorem runEnded_of_not_pending (h : k.offlinePending = false) : runEnded k n topUp = (k.charge n topUp).reexamine := by
  have hp : (k.charge n topUp).reexamine.offlinePending = false := (reexamine_offlinePending _).trans h
  rw [runEnded, Canister.completeOffline, if_neg (by simp [hp])]

theorem runEnded_offlinePending (k : Canister) (n : Nat) (topUp : Bool) : (runEnded k n topUp).offlinePending = false := by
  cases h : k.offlinePending with
  | true => exact (runEnded_of_pending h).2
  | false => rw [runEnded_of_not_pending h]; exact (reexamine_offlinePending _).trans h

theorem reexamine_charge_of_serving (h : k.state = .ready ∨ k.state = .low) :
    (k.charge n topUp).reexamine.state = if k.usable - n < k.lowMark then .low else .ready := by
  rw [reexamine_of_serving (show (k.charge n topUp).state = .ready ∨ (k.charge n topUp).state = .low from h)]
  rfl

/-- Out of service the charged canister is only tested for a return (R45 step 3). -/
theorem runEnded_of_out (hp : k.offlinePending = false) (h : ¬ (k.state = .ready ∨ k.state = .low)) :
    runEnded k n topUp = (k.charge n topUp).retest := by
  have hout : ¬ ((k.charge n topUp).state = .ready ∨ (k.charge n topUp).state = .low) := h
  rw [runEnded_of_not_pending hp, reexamine_of_not_serving hout]

end

/-- What a run end does to the part beside the canister: CANISTER_LOW where a READY canister becomes LOW. -/
theorem bankRunEnd_of_low {s : State} {c : CanisterId} {n : Nat} (topUp : Bool) (h : (s.canister c).state = .ready)
    (hlow : (s.canister c).usable - n < (s.canister c).lowMark) :
    s.bankRunEnd c n topUp =
      (s.setCanister c (runEnded (s.canister c) n topUp)).post .canisterLow 0 c.val ((s.canister c).usable - n) := by
  have hstate : ((s.canister c).charge n topUp).reexamine.state = .low := by
    rw [reexamine_charge_of_serving (.inl h), if_pos hlow]
  have husable : ((s.canister c).charge n topUp).reexamine.usable = (s.canister c).usable - n := reexamine_usable _
  rw [State.bankRunEnd, if_pos ⟨h, hstate⟩, husable]
  rfl

theorem bankRunEnd_of_not_low {s : State} {c : CanisterId} {n : Nat} (topUp : Bool)
    (h : (s.canister c).state ≠ .ready ∨ (s.canister c).lowMark ≤ (s.canister c).usable - n) :
    s.bankRunEnd c n topUp = s.setCanister c (runEnded (s.canister c) n topUp) := by
  rw [State.bankRunEnd, if_neg]
  · rfl
  · rintro ⟨hready, hlow⟩
    rw [reexamine_charge_of_serving (.inl hready)] at hlow
    rcases h with h | h
    · exact h hready
    · rw [if_neg (Nat.not_lt.2 h)] at hlow
      cases hlow

/-- The state of a canister in no service after a run end (R45 step 3, R51). -/
theorem runEnded_of_short {k : Canister} {n : Nat} {topUp : Bool} {y : ShortCause} (hp : k.offlinePending = false)
    (hy : k.state = .short y) :
    (k.tripped = true → (runEnded k n topUp).state = .short .float) ∧
    (k.tripped = false → (runEnded k n topUp).usable < (runEnded k n topUp).reserved →
      (runEnded k n topUp).state = .short .belowReserved) ∧
    (k.tripped = false → (runEnded k n topUp).reserved ≤ (runEnded k n topUp).usable →
      (runEnded k n topUp).state = if (runEnded k n topUp).usable < k.lowMark then .low else .ready) := by
  have hshort : (k.charge n topUp).state = .short y := hy
  rw [runEnded_of_out hp (by simp [hy]), retest_usable, Canister.retest_reserved]
  refine ⟨fun ht => ?_, fun ht hlow => ?_, fun ht hcovered => ?_⟩
  · rw [retest_of_tripped hshort ht]
  · rw [retest_of_belowReserved hshort ht hlow]
  · rw [retest_of_covered hshort ht hcovered]
    rfl

/-! ## Verdict notices (R60, R61) -/

section
variable {s : State} {c : CanisterId} {v : DoseVerdict}

theorem verdictNotice_of_kept (h : missAfter (s.canister c).missCount v ≠ 3 ∨ (s.canister c).missCount = 3) :
    s.verdictNotice c v =
      s.setCanister c { s.canister c with missCount := missAfter (s.canister c).missCount v } := by
  rw [State.verdictNotice, if_neg (by rintro ⟨h3, hne⟩; exact h.elim (· h3) (hne ·))]

theorem verdictNotice_of_third (h : missAfter (s.canister c).missCount v = 3) (hne : (s.canister c).missCount ≠ 3) :
    s.verdictNotice c v =
      (s.setCanister c ({ s.canister c with missCount := 3 } : Canister).toCheck).post .canisterCheck 0 c.val 0 := by
  rw [State.verdictNotice, if_pos ⟨h, hne⟩, h]

theorem missAfter_of_miss {n : Nat} (hnone : v ≠ .none) (hin : v ≠ .inTol) : missAfter n v = min 3 (n + 1) := by
  cases v with
  | none => exact absurd rfl hnone
  | inTol => exact absurd rfl hin
  | _ => rfl

theorem missAfter_ne_three {n : Nat} (h : v = .inTol ∨ n < 2) : missAfter n v ≠ 3 := by
  rcases h with rfl | h
  · simp [missAfter]
  · cases v <;> simp only [missAfter] <;> omega

theorem verdictNotice_of_inTol : s.verdictNotice c .inTol = s.setCanister c { s.canister c with missCount := 0 } :=
  verdictNotice_of_kept (.inl (by simp [missAfter]))

theorem verdictNotice_of_miss (hnone : v ≠ .none) (hin : v ≠ .inTol) (h : (s.canister c).missCount < 2) :
    s.verdictNotice c v = s.setCanister c { s.canister c with missCount := (s.canister c).missCount + 1 } := by
  have hmiss : missAfter (s.canister c).missCount v = (s.canister c).missCount + 1 := by
    rw [missAfter_of_miss hnone hin]
    omega
  rw [verdictNotice_of_kept (.inl (by omega)), hmiss]

theorem verdictNotice_of_two (hnone : v ≠ .none) (hin : v ≠ .inTol) (h : (s.canister c).missCount = 2) :
    s.verdictNotice c v =
      (s.setCanister c ({ s.canister c with missCount := 3 } : Canister).toCheck).post .canisterCheck 0 c.val 0 :=
  verdictNotice_of_third (by rw [missAfter_of_miss hnone hin, h]; rfl) (by omega)

theorem verdictNotice_of_full (hnone : v ≠ .none) (hin : v ≠ .inTol) (h : (s.canister c).missCount = 3) :
    s.verdictNotice c v = s := by
  have hmiss : missAfter (s.canister c).missCount v = (s.canister c).missCount := by
    rw [missAfter_of_miss hnone hin]
    omega
  rw [verdictNotice_of_kept (.inr h), hmiss]
  exact setCanister_self s c

end

theorem toCheck_of_offline {k : Canister} (h : k.state = .offline) : k.toCheck = k := by
  simp only [Canister.toCheck, h]

/-- In every state but OFFLINE the canister is in CHECK afterwards (R61). -/
theorem toCheck_of_not_offline {k : Canister} (h : k.state ≠ .offline) : k.toCheck = { k with state := .check } := by
  unfold Canister.toCheck
  split
  · rfl
  · rfl
  · rfl
  · rename_i hcheck
    rw [← hcheck]
  · rename_i hoff
    exact absurd hoff h

theorem verdictNotice_other {s : State} {c e : CanisterId} (h : e ≠ c) (v : DoseVerdict) :
    (s.verdictNotice c v).canister e = s.canister e := by
  unfold State.verdictNotice
  dsimp only
  split
  · rw [canister_post, State.setCanister_canister, if_neg h]
  · rw [State.setCanister_canister, if_neg h]

/-! ## A run end at the station (R94, R105) -/

theorem bankRunEnd_congr (s : State) (o : OrderTable) (x : Station) (c : CanisterId) (n : Nat) (topUp : Bool) :
    ({ s with orders := o, station := x } : State).bankRunEnd c n topUp =
      { s.bankRunEnd c n topUp with orders := o, station := x } := by
  have hc : ({ s with orders := o, station := x } : State).canister c = s.canister c := rfl
  unfold State.bankRunEnd
  rw [hc]
  dsimp only
  split <;> rfl

theorem runEndTaken_eq (s : State) (run : DoseRun) (cause : EndCause) :
    runEndTaken s run cause =
      { s.bankRunEnd run.canister run.pumped run.topUp with
        orders := (s.updateLive run.tag (deliver run)).orders
        station := { s.station with round := roundEnded s run cause } } :=
  bankRunEnd_congr s _ _ _ _ _

theorem bankRunEnd_beside (s : State) (c : CanisterId) (n : Nat) (topUp : Bool) :
    (s.bankRunEnd c n topUp).weigh = s.weigh ∧ (s.bankRunEnd c n topUp).rack = s.rack ∧
      (s.bankRunEnd c n topUp).mixers = s.mixers ∧ (s.bankRunEnd c n topUp).press = s.press ∧
      (s.bankRunEnd c n topUp).magazines = s.magazines ∧ (s.bankRunEnd c n topUp).line = s.line ∧
      (s.bankRunEnd c n topUp).pending = s.pending := by
  unfold State.bankRunEnd
  dsimp only
  split <;> exact ⟨rfl, rfl, rfl, rfl, rfl, rfl, rfl⟩

theorem over_iff (q : Round) : q.over = true ↔ ∀ x ∈ q.runs, x.ended ≠ none := by
  simp [Round.over, List.all_eq_true, Option.isSome_iff_ne_none]

/-- The last run end, said of the runs of the round. -/
theorem lastEnd_iff (s : State) (run : DoseRun) (cause : EndCause) :
    LastEnd s run cause ↔ s.station.state = .dosing ∧ s.station.halted = false ∧
      ∃ q, s.station.round = some q ∧
        ∀ x ∈ (q.endRun run.canister { pumped := run.pumped, cause := cause }).runs, x.ended ≠ none := by
  unfold LastEnd roundEnded
  cases s.station.round with
  | none => simp
  | some q => simp only [Option.map_some, Option.getD_some, over_iff, Option.some.injEq, exists_eq_left', and_comm]

theorem deliver_jobs (s : State) (run : DoseRun) :
    (s.updateLive run.tag (deliver run)).orders =
      { s.orders with jobs := s.orders.jobs.map (fun j => if j.tag = run.tag ∧ j.finished = false then deliver run j else j) } := by
  simp only [State.updateLive, live_iff]

/-- Settles O35: the bank's notices by the canister's state and flags, the station's by whether the run end is the last of its round. -/
theorem runEndAndVerdictNotices : Obligations.RunEndAndVerdictNotices := by
  refine ⟨fun s c e n topUp => ?_, fun s c e v hnone => ?_, fun s run cause => ?_, fun s m after cause => ?_⟩
  · intro k x
    have hx : x = runEnded k n topUp := (bankRunEnd_canister s c c n topUp).trans (if_pos rfl)
    rw [hx]
    refine ⟨runEnded_usable k n topUp, runEnded_reserved k n topUp, runEnded_offlinePending k n topUp,
      fun hp => (runEnded_of_pending hp).1, fun hp hst => ?_, fun hp hst => ?_, fun y hp hy => runEnded_of_short hp hy,
      fun he => ?_, fun hready hlow => ?_, fun h => ?_⟩
    · rw [runEnded_of_not_pending hp]
      exact reexamine_charge_of_serving hst
    · have hcharged : (k.charge n topUp).state = k.state := rfl
      rw [runEnded_of_out hp (by rcases hst with h | h <;> simp [h]), retest_of_not_short, hcharged]
      rw [hcharged]
      rcases hst with h | h <;> simp [h]
    · rw [bankRunEnd_canister, if_neg he]
    · rw [bankRunEnd_of_low topUp hready hlow]
      rfl
    · rw [bankRunEnd_of_not_low topUp h]
      rfl
  · intro k x
    have hself : ∀ {u : State} {l : Canister}, s.verdictNotice c v = u → u.canister c = l → x = l :=
      fun hu hl => by rw [← hl, ← hu]
    refine ⟨fun hin => ?_, fun hin hm => ?_, fun hin hm hoff => ?_, fun hin hm hoff => ?_, fun hin hm => ?_, fun he => ?_,
      fun hin hm => ?_, fun h => ?_⟩
    · subst hin
      exact hself verdictNotice_of_inTol (canister_setCanister_self s c _)
    · exact hself (verdictNotice_of_miss hnone hin hm) (canister_setCanister_self s c _)
    · exact hself (verdictNotice_of_two hnone hin hm)
        ((canister_setCanister_self s c _).trans (toCheck_of_offline hoff))
    · exact hself (verdictNotice_of_two hnone hin hm)
        ((canister_setCanister_self s c _).trans (toCheck_of_not_offline hoff))
    · exact hself (verdictNotice_of_full hnone hin hm) rfl
    · exact verdictNotice_other he v
    · rw [verdictNotice_of_two hnone hin hm]
      rfl
    · rw [verdictNotice_of_kept ((or_assoc.2 h).imp_left missAfter_ne_three)]
      rfl
  · intro u banked ended last
    have hlast : last ↔ LastEnd s run cause := (lastEnd_iff s run cause).symm
    obtain ⟨hdone, hnot⟩ := stationRunEnd_station s run cause
    obtain ⟨hweigh, hrack, hmixers, hpress, hmagazines, hline, hpending⟩ :=
      bankRunEnd_beside s run.canister run.pumped run.topUp
    have hrest : ∀ {α : Type} (g : State → α), (∀ w : State, g (w.startSettle .round) = g w) →
        g u = g (runEndTaken s run cause) := fun g hg => stationRunEnd_taken g hg s run cause
    rw [runEndTaken_eq] at hrest
    refine ⟨(stationRunEnd_orders s run cause).trans (deliver_jobs s run), hrest (·.bank) (fun _ => rfl),
      hrest (·.reports) (fun _ => rfl), fun h => hdone (hlast.1 h), fun h => hnot (mt hlast.2 h),
      stationRunEnd_drives s run cause, (hrest (·.weigh) (fun _ => rfl)).trans hweigh,
      (hrest (·.rack) (fun _ => rfl)).trans hrack, (hrest (·.mixers) (fun _ => rfl)).trans hmixers,
      (hrest (·.press) (fun _ => rfl)).trans hpress, (hrest (·.magazines) (fun _ => rfl)).trans hmagazines,
      (hrest (·.line) (fun _ => rfl)).trans hline, (hrest (·.pending) (fun _ => rfl)).trans hpending⟩
  · exact ⟨fun r hr => endRun_of_run hr after cause, fun h => endRun_of_no_run h after cause⟩

end Sys2Proof.ColourantBank
end

section
/-! PROOFS. The Mixer Pool's events: the ends of a load, a reclamp and a mix run (O47), an imbalance and the end of an unload (O48). -/
namespace Sys2Proof.Mixing

open Sys2Proof Sys2Proof.Machine
open Sys2Proof.ColourantBank (live_iff finishJob_of_none finishJob_of_not_mayFinish finishJob_of_mayFinish)

/-! ## The records beside the one written -/

theorem setMixer_lane (s : State) (k : MixerId) (x : Mixer) : (s.setMixer k x).mixers.lane = s.mixers.lane := by cases k <;> rfl

theorem setMixer_holdOrder (s : State) (k : MixerId) (x : Mixer) : (s.setMixer k x).mixers.holdOrder = s.mixers.holdOrder := by
  cases k <;> rfl

theorem setMixer_mixer_self (s : State) (k : MixerId) (x : Mixer) : (s.setMixer k x).mixer k = x := by
  rw [State.setMixer_mixer, if_pos rfl]

/-- A mixer's record is read from the pool's. -/
theorem mixer_congr {s t : State} (h : t.mixers = s.mixers) (k : MixerId) : t.mixer k = s.mixer k := by
  unfold State.mixer
  rw [h]

theorem foldl_releaseDose_mixers (l : List Dose) (s : State) : (l.foldl State.releaseDose s).mixers = s.mixers := by
  induction l generalizing s with
  | nil => rfl
  | cons d l ih => exact ih (s.releaseDose d)

theorem postFinish_mixers (s : State) (j : Job) (fin : JobState) : (s.postFinish j fin).mixers = s.mixers := by
  cases fin <;> rfl

/-- Finishing a job leaves the mixers alone (R11). -/
theorem finishJob_mixers (s : State) (t : Tag) (fin : JobState) : (s.finishJob t fin).mixers = s.mixers := by
  cases hj : s.liveJob t with
  | none => rw [finishJob_of_none hj]
  | some j =>
    by_cases hmay : j.state.mayFinish fin = true
    · rw [finishJob_of_mayFinish hj hmay, postFinish_mixers]
      split
      · exact foldl_releaseDose_mixers j.doses _
      · rfl
    · rw [finishJob_of_not_mayFinish hj hmay]

/-! ## The job in a mixer -/

theorem updateLive_eq (s : State) (t : Tag) (f : Job → Job) :
    s.updateLive t f = { s with orders := { s.orders with
      jobs := s.orders.jobs.map (fun j => if j.tag = t ∧ j.finished = false then f j else j) } } := by
  simp only [State.updateLive, live_iff]

/-- A MIXING job is unfinished, so that the notice is acted on by its tag and state alone (R5, R9). -/
theorem jobMixed_eq (s : State) (t : Tag) :
    s.jobMixed t = { s with orders := { s.orders with
      jobs := s.orders.jobs.map (fun j => if j.tag = t ∧ j.state = .mixing then { j with state := .mixed } else j) } } := by
  have hjob : ∀ j : Job,
      (if j.tag = t ∧ j.finished = false then if j.state == .mixing then { j with state := .mixed } else j else j) =
      if j.tag = t ∧ j.state = .mixing then { j with state := .mixed } else j := fun j => by
    by_cases hmixing : j.state = .mixing
    · simp [Job.finished, hmixing]
    · simp [hmixing]
  rw [State.jobMixed, State.moveJob, updateLive_eq]
  simp only [hjob]

theorem jobMixed_orders_congr {s u : State} (h : u.orders = s.orders) (t : Tag) : (u.jobMixed t).orders = (s.jobMixed t).orders := by
  rw [jobMixed_eq, jobMixed_eq, h]

section
variable {s : State} {k : MixerId} {t : Tag} {j : Job}

theorem mixerJob_of_empty (h : (s.mixer k).tag = none) : s.mixerJob k = none := by
  simp only [State.mixerJob, h]

theorem mixerJob_of_tag (h : (s.mixer k).tag = some t) : s.mixerJob k = s.liveJob t := by
  simp only [State.mixerJob, h]

/-! ## The start of a mix run (R127, R129) -/

theorem startMixRun_of_tag (h : (s.mixer k).tag = some t) :
    s.startMixRun k = (s.setMixer k { s.mixer k with state := .running 0 }).updateLive t
      (fun j => { j with mixAttempts := j.mixAttempts + 1 }) := by
  have htag : ((s.setMixer k { s.mixer k with state := .running 0 }).mixer k).tag = some t := by rw [setMixer_mixer_self, h]
  simp only [State.startMixRun, State.updateMixerJob, htag]

theorem exec_loadEnd_of_loading (hst : (s.mixer k).state = .loading) (hrun : (s.mixer k).halted = false) :
    exec (.loadEnd k) s = .next (s.startMixRun k) := congrArg Host.Outcome.next (if_pos ⟨hst, hrun⟩)

theorem exec_reclampEnd_of_reclamp (hst : (s.mixer k).state = .reclamp) (hrun : (s.mixer k).halted = false) :
    exec (.reclampEnd k) s = .next (s.startMixRun k) := congrArg Host.Outcome.next (if_pos ⟨hst, hrun⟩)

/-- No end is taken of an operation that is not going on or is halted (log 7). -/
theorem not_at_work {x : MixerState} (h : (s.mixer k).state ≠ x ∨ (s.mixer k).halted = true) :
    ¬ ((s.mixer k).state = x ∧ (s.mixer k).halted = false) := by
  rintro ⟨hst, hrun⟩
  rcases h with h | h
  · exact h hst
  · exact Bool.false_ne_true (hrun.symm.trans h)

/-! ## The end of a mix run (R129, R131) -/

theorem exec_mixRunComplete_of_due {e time : Nat} (hst : (s.mixer k).state = .running e) (htime : (s.mixer k).mixTime = some time)
    (hjob : s.mixerJob k = some j) (hdue : time ≤ e) (hrun : (s.mixer k).halted = false) :
    exec (.mixRunComplete k) s = .next (s.endMixRun k j).conclude := by
  have h : s.mixRunComplete k = (s.endMixRun k j).conclude := by
    simp only [State.mixRunComplete, hst, htime, hjob]
    rw [if_pos ⟨hdue, hrun⟩]
  exact congrArg Host.Outcome.next h

theorem exec_mixRunComplete_of_not_due
    (h : (∀ e time, (s.mixer k).state = .running e → (s.mixer k).mixTime = some time → e < time) ∨ (s.mixer k).halted = true) :
    exec (.mixRunComplete k) s = .next s := by
  refine congrArg Host.Outcome.next (?_ : s.mixRunComplete k = s)
  unfold State.mixRunComplete
  split
  · rename_i e time j hst htime hjob
    refine if_neg ?_
    rintro ⟨hdue, hrun⟩
    rcases h with h | h
    · exact absurd hdue (Nat.not_le.2 (h e time hst htime))
    · exact Bool.false_ne_true (hrun.symm.trans h)
  · rfl

theorem hasPlace_iff (p : LidPress) : p.hasPlace = true ↔ p.lane.length + p.heldPlaces < 3 :=
  decide_eq_true_iff

theorem endMixRun_of_lidSkip (h : j.lidSkip = true) :
    s.endMixRun k j = s.setMixer k { s.mixer k with state := .unloading, lidLanePlace := false } := if_pos h

theorem endMixRun_of_place (h : j.lidSkip = false) (hplace : s.press.lane.length + s.press.heldPlaces < 3) :
    s.endMixRun k j = s.unloadToLid k := by
  rw [State.endMixRun, if_neg (by simp [h]), if_pos ((hasPlace_iff _).2 hplace)]

/-- A mixer enters HOLDING, at the end of the order of those that hold (R131, R132). -/
def hold (s : State) (k : MixerId) : State :=
  let u := s.setMixer k { s.mixer k with state := .holding }
  { u with mixers := { u.mixers with holdOrder := u.mixers.holdOrder ++ [k] } }

theorem endMixRun_of_full (h : j.lidSkip = false) (hfull : 3 ≤ s.press.lane.length + s.press.heldPlaces) :
    s.endMixRun k j = (hold s k).jobMixed j.tag := by
  have hplace : ¬ s.press.hasPlace = true := fun hp => absurd ((hasPlace_iff _).1 hp) (Nat.not_lt.2 hfull)
  rw [State.endMixRun, if_neg (by simp [h]), if_neg hplace]
  rfl

/-- A mixer's record does not lie in the order of those that hold. -/
theorem withHoldOrder_mixer (s : State) (p : LidPress) (order : List MixerId) (k : MixerId) :
    ({ s with press := p, mixers := { s.mixers with holdOrder := order } } : State).mixer k = s.mixer k := by cases k <;> rfl

theorem unloadToLid_mixer (s : State) (k : MixerId) :
    (s.unloadToLid k).mixer k = { s.mixer k with state := .unloading, lidLanePlace := true } :=
  (withHoldOrder_mixer _ _ _ k).trans (setMixer_mixer_self s k _)

theorem unloadToLid_press (s : State) (k : MixerId) :
    (s.unloadToLid k).press = { s.press with heldPlaces := s.press.heldPlaces + 1 } := by
  simp [State.unloadToLid]

theorem hold_mixer (s : State) (k : MixerId) : (hold s k).mixer k = { s.mixer k with state := .holding } :=
  (withHoldOrder_mixer _ (s.setMixer k _).press _ k).trans (setMixer_mixer_self s k _)

theorem hold_holdOrder (s : State) (k : MixerId) : (hold s k).mixers.holdOrder = s.mixers.holdOrder ++ [k] :=
  congrArg (· ++ [k]) (setMixer_holdOrder s k _)

end

/-- Settles O47: the ends of a load and of a reclamp, then the three ways a tin goes when its run is over. -/
theorem mixerOperationsEnd : Obligations.MixerOperationsEnd := by
  intro s k x up
  refine ⟨fun t => ⟨mixerJob_of_empty, mixerJob_of_tag, jobMixed_eq s t, updateLive_eq s t⟩, fun t hst hrun htag => ?_,
    fun t hst hrun htag => ?_, fun h => congrArg Host.Outcome.next (if_neg (not_at_work h)),
    fun h => congrArg Host.Outcome.next (if_neg (not_at_work h)),
    fun e time j hst htime hjob hdue hrun => ?_, exec_mixRunComplete_of_not_due⟩
  · rw [exec_loadEnd_of_loading hst hrun, startMixRun_of_tag htag]
  · rw [exec_reclampEnd_of_reclamp hst hrun, startMixRun_of_tag htag]
  · have hexec := exec_mixRunComplete_of_due hst htime hjob hdue hrun
    refine ⟨fun hskip => ?_, fun hlid hplace => ⟨s.unloadToLid k, ?_, unloadToLid_mixer s k, unloadToLid_press s k,
      State.setMixer_orders s k _, State.setMixer_reports s k _, setMixer_lane s k _⟩,
      fun hlid hfull => ⟨(hold s k).jobMixed j.tag, ?_, hold_mixer s k, State.setMixer_press s k _, hold_holdOrder s k,
        jobMixed_orders_congr (State.setMixer_orders s k _) j.tag, State.setMixer_reports s k _⟩⟩
    · rw [hexec, endMixRun_of_lidSkip hskip]
    · rw [hexec, endMixRun_of_place hlid hplace]
    · rw [hexec, endMixRun_of_full hlid hfull]

/-! ## An imbalance (R129, R130, R135) -/

section
variable {s : State} {k : MixerId} {t : Tag} {j : Job}

theorem imbalance_at_first {e : Nat} (hst : (s.mixer k).state = .running e) (hjob : s.mixerJob k = some j)
    (hrun : (s.mixer k).halted = false) (hfirst : j.mixAttempts < 2) :
    s.imbalance k = s.setMixer k { s.mixer k with state := .reclamp } := by
  simp only [State.imbalance, hst, hjob, hrun, hfirst, if_true, if_false, Bool.false_eq_true]

theorem imbalance_at_second {e : Nat} (hst : (s.mixer k).state = .running e) (hjob : s.mixerJob k = some j)
    (hrun : (s.mixer k).halted = false) (hsecond : 2 ≤ j.mixAttempts) : s.imbalance k = (s.faultMixer k j).conclude := by
  simp only [State.imbalance, hst, hjob, hrun, Nat.not_lt.2 hsecond, if_false, Bool.false_eq_true]

theorem imbalance_ignored (h : (∀ e, (s.mixer k).state ≠ .running e) ∨ (s.mixer k).halted = true) : s.imbalance k = s := by
  unfold State.imbalance
  split
  · rename_i e j hst hjob
    rcases h with h | h
    · exact absurd hst (h e)
    · exact if_pos h
  · rfl

theorem mixerIndex_eq (k : MixerId) : mixerIndex k = if k = .m0 then 0 else 1 := by cases k <;> rfl

/-! ## The end of an unload (R131) -/

theorem handOver_to_outfeed (htag : (s.mixer k).tag = some t) (h : (s.mixer k).lidLanePlace = false) :
    s.handOver k = s.finishJob t .done := by
  simp only [State.handOver, htag, h, if_false, Bool.false_eq_true]

theorem handOver_to_lidLane (htag : (s.mixer k).tag = some t) (h : (s.mixer k).lidLanePlace = true) :
    s.handOver k = State.jobMixed { s with press := { s.press with
      lane := s.press.lane ++ [t], heldPlaces := s.press.heldPlaces - 1 } } t := by
  simp only [State.handOver, htag, h, if_true]

/-- The tin's way does not touch the mixers, so the record emptied is the one that the unload ends with. -/
theorem endUnload_of_handOver {u : State} (hu : s.handOver k = u) (hmixers : u.mixers = s.mixers) :
    s.endUnload k = u.setMixer k (s.mixer k).emptied := by
  rw [State.endUnload, hu, mixer_congr hmixers]

theorem exec_unloadEnd_of_unloading (hst : (s.mixer k).state = .unloading) (hrun : (s.mixer k).halted = false) :
    exec (.unloadEnd k) s = .next (s.endUnload k).conclude := congrArg Host.Outcome.next (if_pos ⟨hst, hrun⟩)

end

/-- Settles O48: an imbalance by the mix attempts, and the end of an unload by the place of the lid lane that the mixer holds. -/
theorem imbalanceAndUnload : Obligations.ImbalanceAndUnload := by
  intro s k x empty
  refine ⟨fun e j hst hjob hrun => ⟨fun hfirst => ?_, fun hsecond => ?_⟩, fun h => congrArg Host.Outcome.next (imbalance_ignored h),
    fun t hst hrun htag => ⟨fun hout => ?_, fun hlid => ?_⟩, fun h => congrArg Host.Outcome.next (if_neg (not_at_work h))⟩
  · exact congrArg Host.Outcome.next (imbalance_at_first hst hjob hrun hfirst)
  · rw [← mixerIndex_eq]
    exact congrArg Host.Outcome.next (imbalance_at_second hst hjob hrun hsecond)
  · rw [exec_unloadEnd_of_unloading hst hrun, endUnload_of_handOver (handOver_to_outfeed htag hout) (finishJob_mixers s t .done)]
    rfl
  · rw [exec_unloadEnd_of_unloading hst hrun, endUnload_of_handOver (handOver_to_lidLane htag hlid) rfl]
    rfl

end Sys2Proof.Mixing
end

section
/-! PROOFS. Every command keeps the magazine counts within their capacities (O6): what the blocks do only draws from them, and a count that
the host states is clamped at its magazine's capacity (R151, R152). First the commands that keep all that `Keeps` names. -/
namespace Sys2Proof.Lidding

open Sys2Proof Sys2Proof.Machine
open Sys2Proof.ColourantBank (keeps_firstBoundary)

theorem keeps_ite {s t : State} {p : Prop} [Decidable p] (h : Keeps s t) : Keeps s (if p then t else s) := by
  split
  · exact h
  · exact Keeps.refl s

/-! ## The drives -/

theorem keeps_completeStir (s : State) (m : Manifold) : Keeps s (s.completeStir m) := by
  unfold State.completeStir
  dsimp only
  split
  · exact keeps_ite ((keeps_setDrive s m _).trans (keeps_conclude _))
  · exact Keeps.refl s

theorem keeps_pump (s : State) (m : Manifold) : Keeps s (s.pump m) := by
  unfold State.pump
  split
  · exact Keeps.refl s
  · dsimp only
    split
    · exact ((keeps_setDrive s m _).trans (keeps_endRun _ m _ _)).trans (keeps_conclude _)
    · exact keeps_setDrive s m _

theorem keeps_stall (s : State) (m : Manifold) : Keeps s (s.stall m) := by
  unfold State.stall State.postManifoldFault
  dsimp only
  split
  · exact ((keeps_endRun s m _ _).trans (keeps_post _ _ _ _ _)).trans (keeps_conclude _)
  · exact ((keeps_setDrive s m _).trans (keeps_post _ _ _ _ _)).trans (keeps_conclude _)
  · exact Keeps.refl s
  · exact Keeps.refl s

theorem keeps_haltDrive (s : State) (m : Manifold) : Keeps s (s.haltDrive m) :=
  (keeps_endRun s m _ _).trans (keeps_setDrive _ m _)

theorem keeps_haltTopUp (s : State) : Keeps s s.haltTopUp := by
  unfold State.haltTopUp
  split
  · exact keeps_abandonTopUp s _
  · exact Keeps.refl s

theorem keeps_haltBlocks (s : State) : Keeps s s.haltBlocks := by
  have hdrives := (((keeps_station s { s.station with halted := true }).trans (keeps_haltDrive _ .a)).trans
    (keeps_haltDrive _ .b)).trans (keeps_haltTopUp _)
  exact hdrives.trans (Keeps.of_same rfl rfl rfl rfl rfl rfl rfl rfl rfl rfl rfl rfl)

/-! ## The station -/

theorem keeps_strayTest (s : State) : Keeps s s.strayTest := by
  unfold State.strayTest
  split
  · exact ((keeps_weigh s { s.weigh with tareValid := false, strayMs := none } rfl rfl).trans (keeps_station _ _)).trans
      (keeps_post _ _ _ _ _)
  · exact Keeps.refl s

theorem keeps_endUnpark (s : State) : Keeps s s.endUnpark := by
  unfold State.endUnpark
  split
  · dsimp only
    split
    · exact (keeps_freeShelfAt s _).trans (keeps_startReject _)
    · exact (keeps_freeShelfAt s _).trans (keeps_startSettle _ _)
  · exact Keeps.refl s

theorem keeps_endDischarge (s : State) : Keeps s s.endDischarge := by
  unfold State.endDischarge
  split
  · exact Keeps.refl s
  · exact (keeps_mixers s _).trans (keeps_stationEmpty _)

theorem keeps_endReject (s : State) : Keeps s s.endReject := by
  unfold State.endReject
  split
  · exact Keeps.refl s
  · exact (keeps_finishJob s _ _).trans (keeps_stationEmpty _)

theorem keeps_settleDraw (s : State) : Keeps s s.settleDraw := by
  unfold State.settleDraw
  split
  · exact Keeps.refl s
  · split
    · split
      · exact keeps_startReject s
      · split
        · exact keeps_becomeDosed s _
        · exact keeps_firstBoundary s
    · exact ((keeps_tinsTo s _ 0 (Nat.zero_le _)).trans (keeps_jobUndrawn _ _)).trans (keeps_stationEmpty _)

/-! ## The Mixer Pool -/

theorem keeps_startMixRun (s : State) (k : MixerId) : Keeps s (s.startMixRun k) := by
  unfold State.startMixRun State.updateMixerJob
  split
  · exact keeps_setMixer s k _
  · exact (keeps_setMixer s k _).trans (keeps_updateLive _ _ _ (by intro; rfl))

theorem keeps_mixRunComplete (s : State) (k : MixerId) : Keeps s (s.mixRunComplete k) := by
  unfold State.mixRunComplete
  split
  · exact keeps_ite ((keeps_endMixRun s k _).trans (keeps_conclude _))
  · exact Keeps.refl s

theorem keeps_faultMixer (s : State) (k : MixerId) (j : Job) : Keeps s (s.faultMixer k j) :=
  ((keeps_setMixer s k _).trans (keeps_finishJob _ _ _)).trans (keeps_post _ _ _ _ _)

theorem keeps_imbalance (s : State) (k : MixerId) : Keeps s (s.imbalance k) := by
  unfold State.imbalance
  split
  · split
    · exact Keeps.refl s
    · split
      · exact keeps_setMixer s k _
      · exact (keeps_faultMixer s k _).trans (keeps_conclude _)
  · exact Keeps.refl s

theorem keeps_handOver (s : State) (k : MixerId) : Keeps s (s.handOver k) := by
  unfold State.handOver
  split
  · exact Keeps.refl s
  · split
    · exact (keeps_press s _).trans (keeps_moveJob _ _ _ _ (by intro; rfl))
    · exact keeps_finishJob s _ _

theorem keeps_endUnload (s : State) (k : MixerId) : Keeps s (s.endUnload k) :=
  (keeps_handOver s k).trans (keeps_setMixer _ k _)

/-! ## The Lid Press -/

theorem keeps_forceCheck (s : State) (j : Job) (force : Force) : Keeps s (s.forceCheck j force) := by
  have hcounted := (keeps_press s { s.press with lidInHead := false }).trans
    (keeps_updateLive _ j.tag (fun k => { k with lidAttempts := j.lidAttempts + 1 }) (fun _ => rfl))
  refine hcounted.trans ?_
  unfold State.forceCheck
  cases force with
  | pass => exact keeps_press _ _
  | fail =>
    dsimp only
    split
    · split
      · exact keeps_startReseat _ _
      · exact keeps_setPress _ _
    · exact keeps_press _ _

theorem keeps_endEjection (s : State) (d : Destination) : Keeps s (s.endEjection d) := by
  have hfinish : ∀ t, Keeps s (s.ejectJob t d) := fun t => by cases d <;> exact keeps_finishJob s t _
  unfold State.endEjection
  split
  · exact Keeps.refl s
  · dsimp only
    split
    · exact ((hfinish _).trans (keeps_press _ _)).trans (keeps_post _ _ _ _ _)
    · exact (hfinish _).trans (keeps_press _ _)

/-! ## Line Mode Control -/

theorem keeps_endWake (s : State) : Keeps s s.endWake :=
  ((keeps_line s { s.line with idle := s.line.timerAtWake, resumeWake := false } rfl rfl rfl rfl).trans
    (keeps_enterMode _ _)).trans (keeps_takeUp _)

theorem keeps_unhaltDrives (s : State) : Keeps s s.unhaltDrives := keeps_drives s _

theorem keeps_resume (s : State) : Keeps s s.resume := by
  have hposted := ((keeps_unhaltDrives s).trans (keeps_post _ .estop 2 0 0)).trans
    (keeps_line _ { (s.unhaltDrives.post .estop 2 0 0).line with
      saved := none, resumeWake := s.line.resumeMode == LineMode.waking } rfl rfl rfl rfl)
  unfold State.resume
  dsimp only
  split
  · exact hposted.trans (keeps_enterMode _ _)
  · exact ((hposted.trans (keeps_timerClear _)).trans (keeps_enterMode _ _)).trans (keeps_takeUp _)

end Sys2Proof.Lidding
end

section
/-! PROOFS. Every step keeps the magazine counts within their capacities (O6): no command but STOCK_LOAD, STOCK_SET and power-on does more to
them than a draw, those two clamp the count that the host states at the magazine's capacity, and power-on clears all ten (R151, R152). -/
namespace Sys2Proof.Lidding

open Sys2Proof Sys2Proof.Machine
open Sys2Proof.ColourantBank (keeps_firstBoundary Decides decides_withJob decides_withCanister decides_withStock
  okOrClamped_accepted ownerOf exec_request)

/-! ## Counts carried over -/

/-- The counts of `t` are within capacity where those of `s` are. -/
def StockKept (s t : State) : Prop := s.stockOk → t.stockOk

theorem StockKept.refl (s : State) : StockKept s s := id

theorem StockKept.trans {s t u : State} (a : StockKept s t) (b : StockKept t u) : StockKept s u := b ∘ a

theorem StockKept.of_magazines {s t : State} (h : t.magazines = s.magazines) : StockKept s t := by
  unfold StockKept State.stockOk
  rw [h]
  exact id

/-- What only draws from the counts leaves them within capacity. -/
theorem StockKept.of_keeps {s t : State} (h : Keeps s t) : StockKept s t := fun hs z =>
  ⟨(h.tins z).trans (hs z).1, (h.lids z).trans (hs z).2⟩

theorem StockKept.keeps {s t u : State} (h : StockKept s t) (k : Keeps t u) : StockKept s u := h.trans (.of_keeps k)

theorem StockKept.conclude {s t : State} (h : StockKept s t) : StockKept s t.conclude := h.keeps (keeps_conclude t)

theorem stockKept_concluded {s t : State} (h : t.magazines = s.magazines) : StockKept s t.conclude :=
  (StockKept.of_magazines h).conclude

theorem stockKept_ite {s t : State} {p : Prop} [Decidable p] (h : StockKept s t) : StockKept s (if p then t else s) := by
  split
  · exact h
  · exact StockKept.refl s

/-! ## Operations that leave the counts as they stand -/

theorem foldl_reserveDose_magazines (l : List Dose) (s : State) : (l.foldl State.reserveDose s).magazines = s.magazines := by
  induction l generalizing s with
  | nil => rfl
  | cons d l ih => exact ih (s.reserveDose d)

theorem admitJob_magazines (s : State) (o : OrderBody) (size : Size) (base : Base) (doses : List Dose) (dropped : Nat) :
    (s.admitJob o size base doses dropped).magazines = s.magazines := foldl_reserveDose_magazines doses s

theorem examine_magazines (s : State) (c : CanisterId) : (s.examine c).magazines = s.magazines := by
  unfold State.examine
  dsimp only
  split
  · rfl
  · split <;> rfl

theorem foldl_softReset_magazines (l : List CanisterId) (s : State) :
    (l.foldl (fun (k : State) c => k.setCanister c (k.canister c).softReset) s).magazines = s.magazines := by
  induction l generalizing s with
  | nil => rfl
  | cons c l ih => exact ih (s.setCanister c (s.canister c).softReset)

theorem softReset_magazines (s : State) : s.softReset.magazines = s.magazines := by
  simp only [State.softReset, State.resetBank, foldl_softReset_magazines]

theorem autoTare_magazines (s : State) : s.autoTare.magazines = s.magazines := by
  unfold State.autoTare
  split <;> rfl

theorem leaveOnShelf_magazines (s : State) (t : Tag) (i : ShelfId) (reason : ParkReason) :
    (s.leaveOnShelf t i reason).magazines = s.magazines := by
  have hrack : s.renumberRack.magazines = s.magazines := by
    unfold State.renumberRack
    split <;> rfl
  exact hrack

/-! ## Magazine Counts' requests -/

/-- A count within its magazine's capacity may be stated (R151, R152). -/
theorem stockKept_setStock (s : State) {i : Item} {z : Size} {n : Nat} (h : n ≤ i.capacity z) : StockKept s (s.setStock i z n) := by
  have hset : ∀ (v : Vector Nat 5) (capacity : Size → Nat), n ≤ capacity z → (∀ y : Size, v[y] ≤ capacity y) →
      ∀ y : Size, (v.set z.val n z.isLt)[y] ≤ capacity y := fun v capacity hn hv y => by
    by_cases hy : z = y
    · subst hy
      simpa using hn
    · have hval : z.val ≠ y.val := fun e => hy (Fin.ext e)
      simpa [hval] using hv y
  intro hs y
  cases i with
  | tins => exact ⟨hset _ _ h (fun x => (hs x).1) y, (hs y).2⟩
  | lids => exact ⟨(hs y).1, hset _ _ h (fun x => (hs x).2) y⟩

theorem decides_storeStock (s : State) (item size : Byte) (i : Item) (z : Size) (n : Nat) :
    Decides StockKept s (s.storeStock item size i z n) :=
  .inr ⟨okOrClamped_accepted _, (stockKept_setStock s (Nat.min_le_left _ _)).conclude⟩

theorem decides_stockLoad (body : Body) (s : State) : Decides StockKept s (s.stockLoadRequest body) := by
  unfold State.stockLoadRequest
  split
  · refine decides_withStock (fun i z => ?_) _ _
    split
    · exact .inl rfl
    · exact decides_storeStock s _ _ i z _
  · exact .inl rfl

theorem decides_stockSet (body : Body) (s : State) : Decides StockKept s (s.stockSetRequest body) := by
  unfold State.stockSetRequest
  split
  · exact decides_withStock (fun i z => decides_storeStock s _ _ i z _) _ _
  · exact .inl rfl

/-! ## The Order Table's requests -/

theorem decides_order (body : Body) (s : State) : Decides StockKept s (s.orderRequest body) := by
  unfold State.orderRequest
  split
  · exact .inl rfl
  · split
    · exact .inl rfl
    · split
      · exact .inl rfl
      · split
        · exact .inl rfl
        · split
          · exact .inl rfl
          · dsimp only
            split
            · exact .inl rfl
            · exact .inl rfl
            · exact .inl rfl
            · exact .inr ⟨okOrClamped_accepted _, stockKept_concluded (admitJob_magazines s _ _ _ _ _)⟩

theorem decides_cancelJob (s : State) (j : Job) : Decides StockKept s (s.cancelJob j) := by
  have hpending : StockKept s (if j.cancelPending then s else (s.setCancelPending j.tag).conclude) := by
    split
    · exact StockKept.refl s
    · exact stockKept_concluded rfl
  unfold State.cancelJob
  split
  · exact .inr ⟨rfl, (StockKept.of_keeps (keeps_finishJob s _ _)).conclude⟩
  · exact .inr ⟨rfl, hpending⟩
  · exact .inr ⟨rfl, hpending⟩
  all_goals exact .inl rfl

theorem decides_releaseJob (s : State) (j : Job) : Decides StockKept s (s.releaseJob j) := by
  unfold State.releaseJob
  split
  · exact .inr ⟨rfl, .of_magazines rfl⟩
  · exact .inl rfl

/-! ## The Colourant Bank's requests -/

theorem decides_canisterSet (body : Body) (s : State) : Decides StockKept s (s.canisterSetRequest body) := by
  unfold State.canisterSetRequest
  split
  · refine decides_withCanister (fun c => ?_) _
    unfold State.setCanisterFields
    dsimp only
    split
    · exact .inl rfl
    · split
      · exact .inl rfl
      · exact .inr ⟨okOrClamped_accepted _, .of_magazines rfl⟩
  · exact .inl rfl

theorem decides_canisterOffline (s : State) (c : CanisterId) : Decides StockKept s (s.canisterOffline c) := by
  unfold State.canisterOffline
  dsimp only
  split
  · exact .inl rfl
  · split
    · exact .inl rfl
    · split <;> exact .inr ⟨rfl, stockKept_concluded rfl⟩

theorem decides_canisterOnline (s : State) (c : CanisterId) : Decides StockKept s (s.canisterOnline c) := by
  unfold State.canisterOnline
  dsimp only
  split
  · exact .inl rfl
  · split
    · exact .inr ⟨rfl, stockKept_concluded rfl⟩
    · exact .inr ⟨rfl, stockKept_concluded (examine_magazines s c)⟩

theorem decides_canisterClearCheck (s : State) (c : CanisterId) : Decides StockKept s (s.canisterClearCheck c) := by
  unfold State.canisterClearCheck
  dsimp only
  split
  · exact .inl rfl
  · exact .inr ⟨rfl, stockKept_concluded (examine_magazines _ c)⟩

theorem decides_canisterState (body : Body) (s : State) : Decides StockKept s (s.canisterStateRequest body) := by
  unfold State.canisterStateRequest
  split
  · refine decides_withCanister (fun c => ?_) _
    split
    · exact decides_canisterOffline s c
    · split
      · exact decides_canisterOnline s c
      · split
        · exact decides_canisterClearCheck s c
        · exact .inl rfl
  · exact .inl rfl

theorem decides_refill (body : Body) (s : State) : Decides StockKept s (s.refillRequest body) := by
  unfold State.refillRequest
  split
  · refine decides_withCanister (fun c => ?_) _
    unfold State.refillCanister
    dsimp only
    split
    · exact .inl rfl
    · split
      · exact .inl rfl
      · exact .inl rfl
      · exact .inl rfl
      all_goals exact .inr ⟨okOrClamped_accepted _, stockKept_concluded rfl⟩
  · exact .inl rfl

/-! ## Line Mode Control's requests and CLEAR_FAULT -/

theorem decides_lineSet (body : Body) (s : State) : Decides StockKept s (s.lineSetRequest body) := by
  unfold State.lineSetRequest
  split
  · refine .inr ⟨okOrClamped_accepted _, StockKept.keeps (t := s.setSettings _) ?_ (keeps_clockTests _)⟩
    exact .of_magazines rfl
  · exact .inl rfl

/-- A change of mode is accepted, and the standing tests follow it (R158). -/
theorem decides_answerMode {s t : State} (h : StockKept s t) : Decides StockKept s (t.answerMode .ok true) := .inr ⟨rfl, h.conclude⟩

theorem decides_requestWork (s : State) (w : WorkMode) : Decides StockKept s (s.requestWork w) := by
  have hworking : StockKept s { s with line := { s.line with working := w } } := .of_magazines rfl
  unfold State.requestWork
  dsimp only
  split
  · exact .inl rfl
  · exact decides_answerMode (hworking.keeps (keeps_startWake _))
  · exact decides_answerMode (hworking.keeps (keeps_startWake _))
  · exact .inr ⟨rfl, hworking⟩
  all_goals
    split
    · exact .inr ⟨rfl, hworking⟩
    · exact decides_answerMode (hworking.keeps (keeps_enterMode _ _))

theorem decides_requestSleep (s : State) : Decides StockKept s s.requestSleep := by
  unfold State.requestSleep
  split
  · exact .inl rfl
  · exact .inl rfl
  all_goals
    split
    · exact decides_answerMode (.of_keeps (keeps_startSleep s))
    · exact .inl rfl

theorem decides_lineMode (body : Body) (s : State) : Decides StockKept s (s.lineModeRequest body) := by
  unfold State.lineModeRequest
  split
  · split
    · exact decides_requestWork s _
    · split
      · exact decides_requestWork s _
      · split
        · exact decides_requestSleep s
        · exact .inl rfl
  · exact .inl rfl

theorem decides_lineResume (body : Body) (s : State) : Decides StockKept s (s.lineResumeRequest body) := by
  unfold State.lineResumeRequest
  split
  · split
    · exact .inl rfl
    · split
      · exact .inl rfl
      · exact .inr ⟨rfl, (StockKept.of_keeps (keeps_resume s)).conclude⟩
  · exact .inl rfl

theorem decides_reset (body : Body) (s : State) : Decides StockKept s (s.resetRequest body) := by
  unfold State.resetRequest
  split
  · split
    · exact .inl rfl
    · exact .inr ⟨rfl, (StockKept.of_magazines (softReset_magazines s)).keeps (keeps_stirTests _)⟩
  · exact .inl rfl

theorem decides_clearDrive (s : State) (m : Manifold) : Decides StockKept s (s.clearDrive m) := by
  unfold State.clearDrive
  dsimp only
  split
  · exact .inr ⟨rfl, (StockKept.of_keeps (keeps_setDrive s m _)).conclude⟩
  · exact .inl rfl

theorem decides_clearMixer (s : State) (k : MixerId) : Decides StockKept s (s.clearMixer k) := by
  unfold State.clearMixer
  dsimp only
  split
  · exact .inr ⟨rfl, (StockKept.of_keeps (keeps_setMixer s k _)).conclude⟩
  · exact .inl rfl

theorem decides_clearPress (s : State) : Decides StockKept s s.clearPress := by
  unfold State.clearPress
  split
  · exact .inr ⟨rfl, stockKept_concluded rfl⟩
  · exact .inl rfl

theorem decides_clearFault (body : Body) (s : State) : Decides StockKept s (s.clearFaultRequest body) := by
  unfold State.clearFaultRequest
  split
  · split
    · exact decides_clearDrive s .a
    · split
      · exact decides_clearDrive s .b
      · split
        · exact decides_clearMixer s .m0
        · split
          · exact decides_clearMixer s .m1
          · split
            · exact decides_clearPress s
            · exact .inl rfl
  · exact .inl rfl

/-! ## Every request -/

theorem decides_fetch (body : Body) (s : State) : Decides StockKept s (s.fetchRequest body) := by
  unfold State.fetchRequest
  split
  · exact .inr ⟨okOrClamped_accepted _, .of_magazines rfl⟩
  · exact .inl rfl

theorem ident_state (body : Body) (s : State) : (s.identRequest body).state = s := by
  unfold State.identRequest
  split <;> rfl

theorem lineQuery_state (body : Body) (s : State) : (s.lineQueryRequest body).state = s := by
  unfold State.lineQueryRequest
  split <;> rfl

theorem decides_canisterQuery (body : Body) (s : State) : Decides StockKept s (s.canisterQueryRequest body) := by
  unfold State.canisterQueryRequest
  split
  · refine decides_withCanister (fun _ => ?_) _
    exact .inl rfl
  · exact .inl rfl

theorem decides_jobQuery (body : Body) (s : State) : Decides StockKept s (ownerOf .jobQuery body s) := by
  refine decides_withJob (fun _ _ => ?_) body
  exact .inl rfl

theorem decides_ownerOf (k : RequestKind) (body : Body) (s : State) : Decides StockKept s (ownerOf k body s) := by
  cases k with
  | ident => exact .inl (ident_state body s)
  | order => exact decides_order body s
  | cancel => exact decides_withJob (fun j _ => decides_cancelJob s j) body
  | jobQuery => exact decides_jobQuery body s
  | release => exact decides_withJob (fun j _ => decides_releaseJob s j) body
  | canisterSet => exact decides_canisterSet body s
  | canisterState => exact decides_canisterState body s
  | refill => exact decides_refill body s
  | canisterQuery => exact decides_canisterQuery body s
  | stockLoad => exact decides_stockLoad body s
  | stockSet => exact decides_stockSet body s
  | lineSet => exact decides_lineSet body s
  | lineMode => exact decides_lineMode body s
  | lineResume => exact decides_lineResume body s
  | clearFault => exact decides_clearFault body s
  | lineQuery => exact .inl (lineQuery_state body s)
  | fetch => exact decides_fetch body s
  | reset => exact decides_reset body s

/-- Taking a request from the buffer, sending its reply and making it wait are the link's alone. -/
theorem stockKept_serve (s : State) (k : RequestKind) (body : Body) : StockKept s (s.serve k body (ownerOf k body)) := by
  have howner : StockKept s.beginService (ownerOf k body s.beginService).state := by
    rcases decides_ownerOf k body s.beginService with hsame | ⟨-, hkept⟩
    · exact .of_magazines (congrArg State.magazines hsame)
    · exact hkept
  unfold State.serve
  split
  · exact howner
  · exact .of_magazines rfl

/-! ## The other commands -/

theorem stockOk_powerOnValues (estop : Bool) (floats : BitVec 16) (pending : List Instr) :
    (State.powerOnValues estop floats pending).stockOk := fun z => by
  simp [State.powerOnValues]

theorem stockKept_floatTrip (s : State) (c : CanisterId) : StockKept s (s.floatTrip c) := by
  unfold State.floatTrip
  dsimp only
  split
  · split
    · refine StockKept.keeps ?_ (keeps_endRun _ _ _ _)
      exact .of_magazines rfl
    · exact .of_magazines rfl
  · exact .of_magazines rfl

theorem stockKept_endPark (s : State) : StockKept s s.endPark := by
  unfold State.endPark
  split
  · split
    · exact .of_keeps ((keeps_freeShelfAt s _).trans (keeps_startReject _))
    · exact .of_magazines (leaveOnShelf_magazines s _ _ _)
  · exact StockKept.refl s

theorem stockKept_assertEstop (s : State) : StockKept s s.assertEstop := by
  have hhalted : StockKept s (State.haltBlocks { s with line := s.line.halt }) :=
    StockKept.keeps (t := { s with line := s.line.halt }) (.of_magazines rfl) (keeps_haltBlocks _)
  unfold State.assertEstop
  dsimp only
  split
  · exact hhalted.keeps (keeps_post _ _ _ _ _)
  · exact (hhalted.keeps (keeps_post _ _ _ _ _)).keeps (keeps_post _ _ _ _ _)

theorem stockKept_unknownKind {s t : State} {kind : Byte} {body : Body} (h : execUnknownKind kind body s = .next t) :
    StockKept s t := by
  injection h with h
  subst h
  split
  · exact StockKept.refl s
  · split <;> exact .of_magazines rfl

theorem stockKept_serveLinkErr {s t : State} (h : execServeLinkErr s = .next t) : StockKept s t := by
  unfold execServeLinkErr at h
  split at h <;> injection h with h <;> subst h <;> exact .of_magazines rfl

theorem stockKept_weighReading (s : State) (count : Int) (ms : Nat) :
    StockKept s (if s.cellPowered then ((s.takeReading count ms).autoTare.strayTest).conclude else s) :=
  stockKept_ite (StockKept.keeps (.of_magazines (autoTare_magazines (s.takeReading count ms))) (keeps_strayTest _)).conclude

theorem stockKept_settleEnd {s t : State} (h : execSettleEnd s = .next t) : StockKept s t := by
  injection h with h
  subst h
  split
  · exact StockKept.refl s
  · split
    · exact (StockKept.of_keeps (keeps_settleDraw s)).conclude
    · exact (StockKept.of_keeps (keeps_firstBoundary s)).conclude
    · exact (StockKept.of_keeps (keeps_judge s)).conclude
    · exact StockKept.refl s

theorem stockKept_feedEnd {s t : State} {present : Bool} (h : execFeedEnd present s = .next t) : StockKept s t := by
  injection h with h
  subst h
  refine stockKept_ite ?_
  split
  · exact .of_keeps (keeps_setPress s _)
  · split
    · exact StockKept.refl s
    · exact (StockKept.of_keeps (keeps_lidMissing s _ .first)).conclude

theorem stockKept_reseatLidPresent {s t : State} {present : Bool} (h : execReseatLidPresent present s = .next t) :
    StockKept s t := by
  injection h with h
  subst h
  refine stockKept_ite ?_
  split
  · exact StockKept.refl s
  · exact (StockKept.of_keeps (keeps_lidMissing s _ .retry)).conclude

theorem stockKept_seatEnd {s t : State} {force : Force} (h : execSeatEnd force s = .next t) : StockKept s t := by
  injection h with h
  subst h
  refine stockKept_ite ?_
  split
  · exact StockKept.refl s
  · exact (StockKept.of_keeps (keeps_forceCheck s _ force)).conclude

theorem stockKept_ejectionEnd {s t : State} (h : execEjectionEnd s = .next t) : StockKept s t := by
  injection h with h
  subst h
  split
  · split
    · exact StockKept.refl s
    · exact (StockKept.of_keeps (keeps_endEjection s _)).conclude
  · exact StockKept.refl s

theorem stockKept_of_next {s t u : State} (h : (Host.Outcome.next u : Host.Outcome State Fault Refusal) = .next t)
    (a : StockKept s u) : StockKept s t := by
  injection h with h
  exact h ▸ a

/-- Every command that carries no request. -/
theorem stockKept_event {i : Instr} (hreq : requestOf i = none) {s t : State} (h : exec i s = .next t) : StockKept s t := by
  cases i with
  | powerOnReset e f =>
    exact stockKept_of_next h (StockKept.keeps (fun _ => stockOk_powerOnValues e f s.pending) (keeps_stirTests _))
  | lineClockTick => exact stockKept_of_next h (StockKept.keeps (t := s.countSecond) (.of_magazines rfl) (keeps_clockTests _))
  | receiveByte b stopOk => exact stockKept_of_next h (stockKept_ite (.of_magazines rfl))
  | gapTimerExpiry =>
    refine stockKept_of_next h ?_
    split <;> exact .of_magazines rfl
  | serveLinkErr => exact stockKept_serveLinkErr h
  | unknownKind kind body => exact stockKept_unknownKind h
  | estopAssertion => exact stockKept_of_next h (stockKept_assertEstop s)
  | estopRelease => exact stockKept_of_next h (.of_magazines rfl)
  | idleTimerExpiry => exact stockKept_of_next h (.of_keeps ((keeps_expiryTest s).trans (keeps_stirTests _)))
  | wakeEnd => exact stockKept_of_next h (stockKept_ite (StockKept.of_keeps (keeps_endWake s)).conclude)
  | manifoldStale m => exact stockKept_of_next h (.of_keeps (keeps_staleTest s m))
  | stirStart m => exact stockKept_of_next h (.of_keeps (keeps_stirTest s m))
  | stirComplete m => exact stockKept_of_next h (.of_keeps (keeps_completeStir s m))
  | pumpStep m => exact stockKept_of_next h (.of_keeps (keeps_pump s m))
  | stall m => exact stockKept_of_next h (.of_keeps (keeps_stall s m))
  | floatTrip c => exact stockKept_of_next h (stockKept_floatTrip s c).conclude
  | floatClear c => exact stockKept_of_next h (stockKept_concluded rfl)
  | weighReading count ms => exact stockKept_of_next h (stockKept_weighReading s count ms)
  | strayLoad => exact stockKept_of_next h (.of_keeps (keeps_strayTest s))
  | stationSelect => exact stockKept_of_next h (.of_keeps ((keeps_select s).trans (keeps_noticePresence _)))
  | drawEnd => exact stockKept_of_next h (stockKept_ite (.of_keeps (keeps_startSettle s _)))
  | unparkEnd => exact stockKept_of_next h (stockKept_ite (StockKept.of_keeps (keeps_endUnpark s)).conclude)
  | settleEnd => exact stockKept_settleEnd h
  | parkEnd => exact stockKept_of_next h (stockKept_ite (stockKept_endPark s).conclude)
  | dischargeEnd => exact stockKept_of_next h (stockKept_ite (StockKept.of_keeps (keeps_endDischarge s)).conclude)
  | rejectEnd => exact stockKept_of_next h (stockKept_ite (StockKept.of_keeps (keeps_endReject s)).conclude)
  | loadEnd k => exact stockKept_of_next h (stockKept_ite (.of_keeps (keeps_startMixRun s k)))
  | mixRunComplete k => exact stockKept_of_next h (.of_keeps (keeps_mixRunComplete s k))
  | imbalance k => exact stockKept_of_next h (.of_keeps (keeps_imbalance s k))
  | reclampEnd k => exact stockKept_of_next h (stockKept_ite (.of_keeps (keeps_startMixRun s k)))
  | unloadEnd k => exact stockKept_of_next h (stockKept_ite (StockKept.of_keeps (keeps_endUnload s k)).conclude)
  | feedEnd present => exact stockKept_feedEnd h
  | reseatLidPresent present => exact stockKept_reseatLidPresent h
  | seatEnd force => exact stockKept_seatEnd h
  | ejectionEnd => exact stockKept_ejectionEnd h
  | _ => cases hreq

/-! ## Every command -/

theorem stockKept_exec {i : Instr} {s t : State} (h : exec i s = .next t) : StockKept s t := by
  cases hreq : requestOf i with
  | none => exact stockKept_event hreq h
  | some request =>
    obtain ⟨k, body⟩ := request
    rw [exec_request hreq] at h
    exact stockKept_of_next h (stockKept_serve s k body)

/-- Settles O6, command by command: a step is the front command's meaning, and each meaning keeps the counts within capacity. -/
theorem stockKeptWithinCapacity : Obligations.StockKeptWithinCapacity := by
  intro s t hs h
  cases hp : s.pending with
  | nil =>
    simp only [step, hp, Host.Outcome.next.injEq] at h
    exact h ▸ hs
  | cons c rest =>
    rw [step_cons c rest s hp] at h
    exact StockKept.trans (.of_magazines rfl) (stockKept_exec h) hs

end Sys2Proof.Lidding
end

section
/-! PROOFS. The Lid Press's force check (O51) and the end of an ejection (O52). -/
namespace Sys2Proof.Lidding

open Sys2Proof Sys2Proof.Machine
open Sys2Proof.ColourantBank (finishJob_of_none finishJob_of_not_mayFinish finishJob_of_mayFinish)

/-! ## The force check (R144, R145) -/

theorem pressAt_iff (s : State) (x : PressState) : s.pressAt x = true ↔ s.press.state = x ∧ s.press.halted = false := by
  simp [State.pressAt]

/-- A seat or a reseat is going on (R144, R148). -/
theorem seating_iff (s : State) : (s.pressAt (.seating .seat) || s.pressAt .reseating) = true ↔
    (s.press.state = .seating .seat ∨ s.press.state = .reseating) ∧ s.press.halted = false := by
  rw [Bool.or_eq_true, pressAt_iff, pressAt_iff, or_and_right]

section
variable {s : State} {j : Job}

theorem exec_seatEnd_of_seating (h : (s.press.state = .seating .seat ∨ s.press.state = .reseating) ∧ s.press.halted = false)
    (hjob : s.pressJob = some j) (f : Force) : exec (.seatEnd f) s = .next (s.forceCheck j f).conclude := by
  change execSeatEnd f s = _
  rw [execSeatEnd, if_pos ((seating_iff s).2 h), hjob]

theorem exec_seatEnd_ignored
    (h : ¬ ((s.press.state = .seating .seat ∨ s.press.state = .reseating) ∧ s.press.halted = false)) (f : Force) :
    exec (.seatEnd f) s = .next s :=
  congrArg Host.Outcome.next (if_neg (mt (seating_iff s).1 h))

/-- The press without its lid, in the state that the force check decides on, and the job's lid attempts raised (R144). -/
def counted (s : State) (j : Job) (x : PressState) (failures : Nat) : State :=
  State.updateLive { s with press := { s.press with lidInHead := false, state := x, failures := failures } } j.tag
    (fun k => { k with lidAttempts := j.lidAttempts + 1 })

theorem forceCheck_pass : s.forceCheck j .pass = counted s j (.ejecting .outfeed) 0 := rfl

theorem forceCheck_first_fail (h : j.lidAttempts = 0) (hlid : 0 < s.magazines.lids[j.size]) :
    s.forceCheck j .fail = (counted s j .reseating s.press.failures).drawLid j.size := by
  have hfirst : j.lidAttempts + 1 < 2 := by omega
  exact (if_pos hfirst).trans (if_pos hlid)

theorem forceCheck_first_fail_no_lid (h : j.lidAttempts = 0) (hlid : s.magazines.lids[j.size] = 0) :
    s.forceCheck j .fail = counted s j (.waitLid .retry) s.press.failures := by
  have hfirst : j.lidAttempts + 1 < 2 := by omega
  exact (if_pos hfirst).trans (if_neg (Nat.not_lt.2 hlid.le))

theorem forceCheck_second_fail (h : 1 ≤ j.lidAttempts) :
    s.forceCheck j .fail = counted s j (.ejecting .reject) (s.press.failures + 1) := by
  have hsecond : ¬ j.lidAttempts + 1 < 2 := by omega
  exact if_neg hsecond

end

/-- Settles O51: the four outcomes of a force check that is taken, and the report out of place. -/
theorem forceCheckDecides : Obligations.ForceCheckDecides := by
  intro s j p seating counted
  refine ⟨fun hseat hjob => ⟨?_, fun hfirst hlid => ?_, fun hfirst hlid => ?_, fun hsecond => ?_⟩,
    fun f hseat => exec_seatEnd_ignored hseat f⟩
  · rw [exec_seatEnd_of_seating hseat hjob, forceCheck_pass]
    rfl
  · rw [exec_seatEnd_of_seating hseat hjob, forceCheck_first_fail hfirst hlid]
    rfl
  · rw [exec_seatEnd_of_seating hseat hjob, forceCheck_first_fail_no_lid hfirst hlid]
    rfl
  · rw [exec_seatEnd_of_seating hseat hjob, forceCheck_second_fail hsecond]
    rfl

/-! ## The end of an ejection (R146) -/

theorem foldl_releaseDose_press (l : List Dose) (s : State) : (l.foldl State.releaseDose s).press = s.press := by
  induction l generalizing s with
  | nil => rfl
  | cons d l ih => exact ih (s.releaseDose d)

theorem postFinish_press (s : State) (j : Job) (fin : JobState) : (s.postFinish j fin).press = s.press := by
  cases fin <;> rfl

/-- Finishing a job leaves the press alone (R11). -/
theorem finishJob_press (s : State) (t : Tag) (fin : JobState) : (s.finishJob t fin).press = s.press := by
  cases hj : s.liveJob t with
  | none => rw [finishJob_of_none hj]
  | some j =>
    by_cases hmay : j.state.mayFinish fin = true
    · rw [finishJob_of_mayFinish hj hmay, postFinish_press]
      split
      · exact foldl_releaseDose_press j.doses _
      · rfl
    · rw [finishJob_of_not_mayFinish hj hmay]

section
variable {s : State} {d : Destination} {t : Tag}

theorem ejectJob_press (s : State) (t : Tag) (d : Destination) : (s.ejectJob t d).press = s.press := by
  cases d <;> exact finishJob_press s t _

theorem exec_ejectionEnd_of_ejecting (hst : s.press.state = .ejecting d) (hrun : s.press.halted = false) :
    exec .ejectionEnd s = .next (s.endEjection d).conclude := by
  change execEjectionEnd s = _
  simp only [execEjectionEnd, hst, hrun, Bool.false_eq_true, if_false]

theorem exec_ejectionEnd_ignored (h : (∀ x, s.press.state ≠ .ejecting x) ∨ s.press.halted = true) :
    exec .ejectionEnd s = .next s := by
  change execEjectionEnd s = _
  unfold execEjectionEnd
  split
  · rename_i x hst
    rw [if_pos (h.resolve_left (fun hx => hx x hst))]
  · rfl

theorem endEjection_to_fault (htag : s.press.tag = some t) (h : s.press.failures = 2) :
    s.endEjection d =
      State.post { s.ejectJob t d with press := { s.press with tag := none, state := .fault } } .pressFault 0 0 0 := by
  simp only [State.endEjection, htag, ejectJob_press, if_pos h]

theorem endEjection_to_idle (htag : s.press.tag = some t) (h : s.press.failures ≠ 2) :
    s.endEjection d = { s.ejectJob t d with press := { s.press with tag := none, state := .idle } } := by
  simp only [State.endEjection, htag, ejectJob_press, if_neg h]

end

/-- Settles O52: the job finishes by where its tin went, and two rejects in a row put the press in FAULT. -/
theorem ejectionEnds : Obligations.EjectionEnds := by
  intro s t d p u
  have hu : s.ejectJob t d = u := by cases d <;> rfl
  refine ⟨fun hst hrun htag => ⟨fun htwo => ?_, fun hnot => ?_⟩, exec_ejectionEnd_ignored⟩
  · rw [exec_ejectionEnd_of_ejecting hst hrun, endEjection_to_fault htag htwo, hu]
  · rw [exec_ejectionEnd_of_ejecting hst hrun, endEjection_to_idle htag hnot, hu]

end Sys2Proof.Lidding
end

section
/-! PROOFS. STOCK_LOAD and STOCK_SET (O53). -/
namespace Sys2Proof.Lidding

open Sys2Proof Sys2Proof.Machine
open Sys2Proof.ColourantBank (exec_answered)

/-! ## The item and size fields (R152) -/

theorem itemOf_some {b : Byte} {i : Item} (h : b.toNat = if i = .tins then 1 else 2) : itemOf b = some i := by
  have hb : b = BitVec.ofNat 8 (if i = .tins then 1 else 2) := by rw [← h, BitVec.ofNat_toNat, BitVec.setWidth_eq]
  subst hb
  cases i <;> rfl

theorem itemOf_none {b : Byte} (h1 : b.toNat ≠ 1) (h2 : b.toNat ≠ 2) : itemOf b = none := by
  have hb1 : b ≠ 1 := fun h => h1 (by rw [h]; rfl)
  have hb2 : b ≠ 2 := fun h => h2 (by rw [h]; rfl)
  rw [itemOf, if_neg hb1, if_neg hb2]

/-- The item field names a magazine exactly where it is 1 or 2. -/
theorem item_of_toNat {b : Byte} (h : b.toNat = 1 ∨ b.toNat = 2) : ∃ i, itemOf b = some i := by
  rcases h with h | h
  · exact ⟨.tins, itemOf_some h⟩
  · exact ⟨.lids, itemOf_some h⟩

section
variable (s : State) {item size : Byte} {i : Item} {z : Size} (f : Item → Size → Answer)

theorem withStock_of_wrong_item (h1 : item.toNat ≠ 1) (h2 : item.toNat ≠ 2) :
    s.withStock item size f = s.refuseField .badField 1 0 := by
  rw [State.withStock, itemOf_none h1 h2]

theorem withStock_of_wrong_size (hitem : item.toNat = 1 ∨ item.toNat = 2) (hsize : 5 ≤ size.toNat) :
    s.withStock item size f = s.refuseField .badField 2 0 := by
  obtain ⟨i, hi⟩ := item_of_toNat hitem
  rw [State.withStock, hi, sizeOf?_none hsize]

theorem withStock_of_named (hitem : itemOf item = some i) (hsize : size.toNat = z.val) : s.withStock item size f = f i z := by
  rw [State.withStock, hitem, sizeOf?_some hsize]

end

/-! ## The count stored (R151, R152) -/

/-- The count stored is the smaller of the one stated and the capacity, and CLAMPED tells that the one stated was above it. -/
theorem storeStock_eq (s : State) (item size : Byte) {i : Item} {z : Size} {cap : Nat} (hcap : i.capacity z = cap) (n : Nat) :
    s.storeStock item size i z n =
      { result := if cap < n then .clamped else .ok, fields := [item, size] ++ enc1 (if cap < n then cap else n),
        state := (s.setStock i z (if cap < n then cap else n)).conclude } := by
  have hmin : min cap n = if cap < n then cap else n := by
    split <;> omega
  simp only [State.storeStock, hcap, hmin, okOrClamped, decide_eq_true_eq]

theorem stock_eq (s : State) (i : Item) (z : Size) :
    s.beginService.stock i z = if i = .tins then s.magazines.tins[z] else s.magazines.lids[z] := by
  cases i <;> rfl

/-- One count of a magazine written: that count, and the four beside it. -/
theorem getElem_set_size (v : Vector Nat 5) (z : Size) (n : Nat) :
    (v.set z.val n)[z] = n ∧ ∀ y : Size, y ≠ z → (v.set z.val n)[y] = v[y] := by
  refine ⟨by simp, fun y hy => ?_⟩
  have hval : z.val ≠ y.val := fun e => hy (Fin.ext e.symm)
  simp [hval]

/-- Settles O53: the fields are checked in order, and the count stated is stored up to the capacity. -/
theorem stockRequests : Obligations.StockRequests := by
  refine ⟨fun s z n => ⟨rfl, rfl, (getElem_set_size _ z n).1, (getElem_set_size _ z n).1,
    fun y hy => ⟨(getElem_set_size _ z n).2 y hy, (getElem_set_size _ z n).2 y hy⟩⟩, fun s item size count => ?_⟩
  intro b body answer
  have hstored : ∀ k i z n, Host.Outcome.next ((b.storeStock item size i z n).send k) = answer k i z n := fun k i z n =>
    congrArg (fun a : Answer => Host.Outcome.next (a.send k))
      (storeStock_eq b item size (by cases i <;> fin_cases z <;> rfl) n)
  refine ⟨fun hserves => ?_, fun hserves => ?_⟩
  · have hexec := fun {a : Answer} => exec_answered (i := .stockLoad body) (a := a) rfl hserves
    refine ⟨fun h1 h2 => hexec (withStock_of_wrong_item _ _ h1 h2),
      fun hitem hsize => hexec (withStock_of_wrong_size _ _ hitem hsize), fun hitem hsize hzero => ?_,
      fun i z hitem hsize hcount => ?_⟩
    · obtain ⟨i, hi⟩ := item_of_toNat hitem
      have hnamed : size.toNat = (⟨size.toNat, Nat.lt_succ_of_le hsize⟩ : Size).val := rfl
      exact hexec ((withStock_of_named _ _ hi hnamed).trans (if_pos hzero))
    · rw [← stock_eq]
      exact (hexec ((withStock_of_named _ _ (itemOf_some hitem) hsize).trans (if_neg hcount))).trans (hstored _ i z _)
  · have hexec := fun {a : Answer} => exec_answered (i := .stockSet body) (a := a) rfl hserves
    exact ⟨fun h1 h2 => hexec (withStock_of_wrong_item _ _ h1 h2),
      fun hitem hsize => hexec (withStock_of_wrong_size _ _ hitem hsize),
      fun i z hitem hsize => (hexec (withStock_of_named _ _ (itemOf_some hitem) hsize)).trans (hstored _ i z _)⟩

end Sys2Proof.Lidding
end

section
/-! PROOFS. The line clock: every command but the tick and power-on leaves it as it stands (O9). -/
namespace Sys2Proof.LineModes

open Sys2Proof Sys2Proof.Machine
open Sys2Proof.ColourantBank (ownerOf exec_request keeps_firstBoundary)
open Sys2Proof.Lidding (keeps_completeStir keeps_pump keeps_stall keeps_haltBlocks keeps_strayTest keeps_endUnpark
  keeps_endDischarge keeps_endReject keeps_settleDraw keeps_startMixRun keeps_mixRunComplete keeps_imbalance keeps_endUnload
  keeps_forceCheck keeps_endEjection keeps_endWake keeps_resume ident_state lineQuery_state)

/-! ## The clock left as it stands -/

/-- The clock of `t` is the clock of `s`. -/
def ClockKept (s t : State) : Prop := t.line.clock = s.line.clock

section
variable {s t u : State}

theorem ClockKept.refl (s : State) : ClockKept s s := rfl

theorem ClockKept.trans (a : ClockKept s t) (b : ClockKept t u) : ClockKept s u := Eq.trans b a

theorem ClockKept.of_line (h : t.line = s.line) : ClockKept s t := congrArg LineControl.clock h

/-- What a shared operation keeps includes the clock. -/
theorem ClockKept.of_keeps (h : Keeps s t) : ClockKept s t := h.clock

theorem ClockKept.keeps (h : ClockKept s t) (k : Keeps t u) : ClockKept s u := h.trans k.clock

theorem ClockKept.conclude (h : ClockKept s t) : ClockKept s t.conclude := h.keeps (keeps_conclude t)

theorem clockKept_concluded (h : t.line = s.line) : ClockKept s t.conclude := (ClockKept.of_line h).conclude

theorem clockKept_ite {p : Prop} [Decidable p] (h : ClockKept s t) : ClockKept s (if p then t else s) := by
  split
  · exact h
  · exact ClockKept.refl s

end

/-! ## Operations that do not write the line's record -/

theorem foldl_reserveDose_line (l : List Dose) (s : State) : (l.foldl State.reserveDose s).line = s.line := by
  induction l generalizing s with
  | nil => rfl
  | cons d l ih => exact ih (s.reserveDose d)

theorem admitJob_line (s : State) (o : OrderBody) (size : Size) (base : Base) (doses : List Dose) (dropped : Nat) :
    (s.admitJob o size base doses dropped).line = s.line := foldl_reserveDose_line doses s

theorem examine_line (s : State) (c : CanisterId) : (s.examine c).line = s.line := by
  fun_cases State.examine s c <;> rfl

theorem autoTare_line (s : State) : s.autoTare.line = s.line := by
  fun_cases State.autoTare s <;> rfl

theorem renumberRack_line (s : State) : s.renumberRack.line = s.line := by
  fun_cases State.renumberRack s <;> rfl

theorem leaveOnShelf_line (s : State) (t : Tag) (i : ShelfId) (reason : ParkReason) :
    (s.leaveOnShelf t i reason).line = s.line := renumberRack_line s

/-! ## What the owners share -/

section
variable {s : State}

theorem clockKept_withJob {f : Job → Answer} (h : ∀ j, ClockKept s (f j).state) (body : Body) :
    ClockKept s (s.withJob body f).state := by
  fun_cases State.withJob s body f with
  | case3 _ _ _ _ j => exact h j
  | _ => rfl

theorem clockKept_withCanister {f : CanisterId → Answer} (h : ∀ c, ClockKept s (f c).state) (b : Byte) :
    ClockKept s (s.withCanister b f).state := by
  fun_cases State.withCanister s b f with
  | case2 c => exact h c
  | _ => rfl

theorem clockKept_withStock {f : Item → Size → Answer} (h : ∀ i z, ClockKept s (f i z).state) (item size : Byte) :
    ClockKept s (s.withStock item size f).state := by
  fun_cases State.withStock s item size f with
  | case3 i _ z => exact h i z
  | _ => rfl

end

/-! ## The Order Table's requests -/

/-- An ORDER changes the state where it is admitted (`case9`), and an admission does not write the line's record (R18). -/
theorem clockKept_order (body : Body) (s : State) : ClockKept s (s.orderRequest body).state := by
  fun_cases State.orderRequest body s with
  | case9 => exact (ClockKept.of_line (admitJob_line s _ _ _ _ _)).conclude
  | _ => rfl

/-- A QUEUED job is finished at once (`case1`); a DOSING or PARKED one is marked (R19, R20). -/
theorem clockKept_cancelJob (s : State) (j : Job) : ClockKept s (s.cancelJob j).state := by
  have hpending : ClockKept s (if j.cancelPending then s else (s.setCancelPending j.tag).conclude) := by
    split
    · rfl
    · exact clockKept_concluded rfl
  fun_cases State.cancelJob s j with
  | case1 => exact (ClockKept.of_keeps (keeps_finishJob s _ _)).conclude
  | case2 => exact hpending
  | case3 => exact hpending
  | _ => rfl

theorem clockKept_releaseJob (s : State) (j : Job) : ClockKept s (s.releaseJob j).state := by
  fun_cases State.releaseJob s j <;> rfl

theorem clockKept_jobQuery (body : Body) (s : State) : ClockKept s (ownerOf .jobQuery body s).state := by
  refine clockKept_withJob (fun _ => ?_) body
  rfl

/-! ## The Colourant Bank's requests -/

theorem clockKept_canisterSet (body : Body) (s : State) : ClockKept s (s.canisterSetRequest body).state := by
  fun_cases State.canisterSetRequest body s with
  | case1 =>
    refine clockKept_withCanister (fun c => ?_) _
    fun_cases State.setCanisterFields <;> rfl
  | case2 => rfl

theorem clockKept_answerState {s t : State} (h : ClockKept s t) (c : CanisterId) (r : Result) (changed : Bool) :
    ClockKept s (t.answerState c r changed).state := by
  cases changed
  · exact h
  · exact h.conclude

theorem clockKept_canisterState (body : Body) (s : State) : ClockKept s (s.canisterStateRequest body).state := by
  have hoffline : ∀ c, ClockKept s (s.canisterOffline c).state := fun c => by
    fun_cases State.canisterOffline s c <;> exact clockKept_answerState rfl c _ _
  have honline : ∀ c, ClockKept s (s.canisterOnline c).state := fun c => by
    fun_cases State.canisterOnline s c with
    | case3 => exact clockKept_answerState (.of_line (examine_line s c)) c _ _
    | _ => exact clockKept_answerState rfl c _ _
  have hclear : ∀ c, ClockKept s (s.canisterClearCheck c).state := fun c => by
    fun_cases State.canisterClearCheck s c with
    | case1 => exact clockKept_answerState rfl c _ _
    | case2 => exact clockKept_answerState (.of_line (examine_line (s.setCanister c _) c)) c _ _
  fun_cases State.canisterStateRequest body s with
  | case1 =>
    refine clockKept_withCanister (fun c => ?_) _
    split_ifs
    · exact hoffline c
    · exact honline c
    · exact hclear c
    · rfl
  | case2 => rfl

theorem clockKept_canisterQuery (body : Body) (s : State) : ClockKept s (s.canisterQueryRequest body).state := by
  fun_cases State.canisterQueryRequest body s with
  | case1 =>
    refine clockKept_withCanister (fun _ => ?_) _
    rfl
  | case2 => rfl

theorem clockKept_refill (body : Body) (s : State) : ClockKept s (s.refillRequest body).state := by
  fun_cases State.refillRequest body s with
  | case1 =>
    refine clockKept_withCanister (fun c => ?_) _
    fun_cases State.refillCanister with
    | case5 => exact clockKept_concluded rfl
    | case6 => exact clockKept_concluded rfl
    | _ => rfl
  | case2 => rfl

/-! ## Magazine Counts' requests -/

theorem clockKept_storeStock (s : State) (item size : Byte) (i : Item) (z : Size) (n : Nat) :
    ClockKept s (s.storeStock item size i z n).state :=
  (ClockKept.of_line (State.setStock_line s i z _)).conclude

theorem clockKept_stockLoad (body : Body) (s : State) : ClockKept s (s.stockLoadRequest body).state := by
  fun_cases State.stockLoadRequest body s with
  | case1 =>
    refine clockKept_withStock (fun i z => ?_) _ _
    split_ifs
    · rfl
    · exact clockKept_storeStock s _ _ i z _
  | case2 => rfl

theorem clockKept_stockSet (body : Body) (s : State) : ClockKept s (s.stockSetRequest body).state := by
  fun_cases State.stockSetRequest body s with
  | case1 => exact clockKept_withStock (fun i z => clockKept_storeStock s _ _ i z _) _ _
  | case2 => rfl

/-! ## Line Mode Control's requests -/

theorem clockKept_setSettings (s : State) (settings : Settings) : ClockKept s (s.setSettings settings) := rfl

theorem clockKept_lineSet (body : Body) (s : State) : ClockKept s (s.lineSetRequest body).state := by
  fun_cases State.lineSetRequest body s with
  | case1 => exact (clockKept_setSettings s _).keeps (keeps_clockTests _)
  | case2 => rfl

/-- A request for a working mode starts the wake (`case2`, `case3`) or enters that mode (`case6`, `case8`), or changes no mode (R158). -/
theorem clockKept_requestWork (s : State) (w : WorkMode) : ClockKept s (s.requestWork w).state := by
  have hworking : ClockKept s { s with line := { s.line with working := w } } := rfl
  fun_cases State.requestWork s w with
  | case2 => exact (hworking.keeps (keeps_startWake _)).conclude
  | case3 => exact (hworking.keeps (keeps_startWake _)).conclude
  | case6 => exact (hworking.keeps (keeps_enterMode _ _)).conclude
  | case8 => exact (hworking.keeps (keeps_enterMode _ _)).conclude
  | _ => rfl

/-- An idle line goes to SLEEP from the four other modes (`case3` to `case9`); otherwise nothing changes (R158). -/
theorem clockKept_requestSleep (s : State) : ClockKept s s.requestSleep.state := by
  have hslept : ClockKept s (s.startSleep.answerMode .ok true).state := (ClockKept.of_keeps (keeps_startSleep s)).conclude
  fun_cases State.requestSleep s with
  | case3 => exact hslept
  | case5 => exact hslept
  | case7 => exact hslept
  | case9 => exact hslept
  | _ => rfl

theorem clockKept_lineMode (body : Body) (s : State) : ClockKept s (s.lineModeRequest body).state := by
  fun_cases State.lineModeRequest body s with
  | case1 => exact clockKept_requestWork s _
  | case2 => exact clockKept_requestWork s _
  | case3 => exact clockKept_requestSleep s
  | _ => rfl

theorem clockKept_lineResume (body : Body) (s : State) : ClockKept s (s.lineResumeRequest body).state := by
  fun_cases State.lineResumeRequest body s with
  | case3 => exact (ClockKept.of_keeps (keeps_resume s)).conclude
  | _ => rfl

theorem clockKept_reset (body : Body) (s : State) : ClockKept s (s.resetRequest body).state := by
  fun_cases State.resetRequest body s with
  | case2 => exact ClockKept.keeps (t := s.softReset) rfl (keeps_stirTests _)
  | _ => rfl

/-! ## CLEAR_FAULT -/

theorem clockKept_clearDrive (s : State) (m : Manifold) : ClockKept s (s.clearDrive m).state := by
  fun_cases State.clearDrive s m with
  | case1 => exact (ClockKept.of_keeps (keeps_setDrive s m _)).conclude
  | case2 => rfl

theorem clockKept_clearMixer (s : State) (k : MixerId) : ClockKept s (s.clearMixer k).state := by
  fun_cases State.clearMixer s k with
  | case1 => exact (ClockKept.of_keeps (keeps_setMixer s k _)).conclude
  | case2 => rfl

theorem clockKept_clearPress (s : State) : ClockKept s s.clearPress.state := by
  fun_cases State.clearPress s with
  | case1 => exact clockKept_concluded rfl
  | case2 => rfl

theorem clockKept_clearFault (body : Body) (s : State) : ClockKept s (s.clearFaultRequest body).state := by
  fun_cases State.clearFaultRequest body s with
  | case1 => exact clockKept_clearDrive s .a
  | case2 => exact clockKept_clearDrive s .b
  | case3 => exact clockKept_clearMixer s .m0
  | case4 => exact clockKept_clearMixer s .m1
  | case5 => exact clockKept_clearPress s
  | _ => rfl

/-! ## Every request -/

theorem clockKept_fetch (body : Body) (s : State) : ClockKept s (s.fetchRequest body).state := by
  fun_cases State.fetchRequest body s <;> rfl

theorem clockKept_ownerOf (k : RequestKind) (body : Body) (s : State) : ClockKept s (ownerOf k body s).state := by
  cases k with
  | ident => exact congrArg (·.line.clock) (ident_state body s)
  | order => exact clockKept_order body s
  | cancel => exact clockKept_withJob (clockKept_cancelJob s) body
  | jobQuery => exact clockKept_jobQuery body s
  | release => exact clockKept_withJob (clockKept_releaseJob s) body
  | canisterSet => exact clockKept_canisterSet body s
  | canisterState => exact clockKept_canisterState body s
  | refill => exact clockKept_refill body s
  | canisterQuery => exact clockKept_canisterQuery body s
  | stockLoad => exact clockKept_stockLoad body s
  | stockSet => exact clockKept_stockSet body s
  | lineSet => exact clockKept_lineSet body s
  | lineMode => exact clockKept_lineMode body s
  | lineResume => exact clockKept_lineResume body s
  | clearFault => exact clockKept_clearFault body s
  | lineQuery => exact congrArg (·.line.clock) (lineQuery_state body s)
  | fetch => exact clockKept_fetch body s
  | reset => exact clockKept_reset body s

/-- Taking a request from the buffer, sending its reply and making it wait are the link's alone. -/
theorem clockKept_serve (s : State) (k : RequestKind) (body : Body) : ClockKept s (s.serve k body (ownerOf k body)) := by
  fun_cases State.serve with
  | case1 => exact clockKept_ownerOf k body s.beginService
  | case2 => rfl

/-! ## The other commands -/

/-- Only the end of the run on the canister reaches further than the bank and the reports (R72). -/
theorem clockKept_floatTrip (s : State) (c : CanisterId) : ClockKept s (s.floatTrip c) := by
  fun_cases State.floatTrip s c with
  | case1 k hservice tripped posted hrunning =>
    have hposted : ClockKept s posted := rfl
    exact hposted.keeps (keeps_endRun _ _ _ _)
  | _ => rfl

theorem clockKept_weighReading (s : State) (count : Int) (ms : Nat) :
    ClockKept s (((s.takeReading count ms).autoTare.strayTest).conclude) :=
  (ClockKept.keeps (.of_line (autoTare_line (s.takeReading count ms))) (keeps_strayTest _)).conclude

theorem clockKept_endPark (s : State) : ClockKept s s.endPark := by
  fun_cases State.endPark s with
  | case1 => exact .of_keeps ((keeps_freeShelfAt s _).trans (keeps_startReject _))
  | case2 => exact .of_line (leaveOnShelf_line s _ _ _)
  | case3 => rfl

theorem clockKept_assertEstop (s : State) : ClockKept s s.assertEstop := by
  have hhalted : ClockKept s (State.haltBlocks { s with line := s.line.halt }) :=
    ClockKept.keeps (t := { s with line := s.line.halt }) rfl (keeps_haltBlocks _)
  fun_cases State.assertEstop s <;> exact hhalted

theorem execServeLinkErr_clock (s : State) : ∃ t, execServeLinkErr s = .next t ∧ ClockKept s t := by
  fun_cases execServeLinkErr s <;> exact ⟨_, rfl, rfl⟩

theorem execSettleEnd_clock (s : State) : ∃ t, execSettleEnd s = .next t ∧ ClockKept s t := by
  refine ⟨_, rfl, ?_⟩
  split
  · rfl
  · split
    · exact (ClockKept.of_keeps (keeps_settleDraw s)).conclude
    · exact (ClockKept.of_keeps (keeps_firstBoundary s)).conclude
    · exact (ClockKept.of_keeps (keeps_judge s)).conclude
    · rfl

theorem execFeedEnd_clock (present : Bool) (s : State) : ∃ t, execFeedEnd present s = .next t ∧ ClockKept s t := by
  refine ⟨_, rfl, clockKept_ite ?_⟩
  split
  · rfl
  · split
    · rfl
    · exact (ClockKept.of_keeps (keeps_lidMissing s _ .first)).conclude

theorem execReseatLidPresent_clock (present : Bool) (s : State) :
    ∃ t, execReseatLidPresent present s = .next t ∧ ClockKept s t := by
  refine ⟨_, rfl, clockKept_ite ?_⟩
  split
  · rfl
  · exact (ClockKept.of_keeps (keeps_lidMissing s _ .retry)).conclude

theorem execSeatEnd_clock (force : Force) (s : State) : ∃ t, execSeatEnd force s = .next t ∧ ClockKept s t := by
  refine ⟨_, rfl, clockKept_ite ?_⟩
  split
  · rfl
  · exact (ClockKept.of_keeps (keeps_forceCheck s _ force)).conclude

theorem execEjectionEnd_clock (s : State) : ∃ t, execEjectionEnd s = .next t ∧ ClockKept s t := by
  refine ⟨_, rfl, ?_⟩
  split
  · split
    · rfl
    · exact (ClockKept.of_keeps (keeps_endEjection s _)).conclude
  · rfl

/-- The line clock under every command that carries no request, but the tick and power-on. -/
theorem exec_event_clock {i : Instr} (hreq : requestOf i = none) (htick : i ≠ .lineClockTick)
    (hpor : ∀ e f, i ≠ .powerOnReset e f) (s : State) : ∃ t, exec i s = .next t ∧ ClockKept s t := by
  cases i with
  | powerOnReset e f => exact absurd rfl (hpor e f)
  | lineClockTick => exact absurd rfl htick
  | receiveByte b stopOk => exact ⟨_, rfl, clockKept_ite rfl⟩
  | gapTimerExpiry => exact ⟨_, rfl, by split <;> rfl⟩
  | serveLinkErr => exact execServeLinkErr_clock s
  | unknownKind kind body => exact ⟨_, rfl, by split_ifs <;> rfl⟩
  | estopAssertion => exact ⟨_, rfl, clockKept_assertEstop s⟩
  | estopRelease => exact ⟨_, rfl, rfl⟩
  | idleTimerExpiry => exact ⟨_, rfl, .of_keeps ((keeps_expiryTest s).trans (keeps_stirTests _))⟩
  | wakeEnd => exact ⟨_, rfl, clockKept_ite (ClockKept.of_keeps (keeps_endWake s)).conclude⟩
  | manifoldStale m => exact ⟨_, rfl, .of_keeps (keeps_staleTest s m)⟩
  | stirStart m => exact ⟨_, rfl, .of_keeps (keeps_stirTest s m)⟩
  | stirComplete m => exact ⟨_, rfl, .of_keeps (keeps_completeStir s m)⟩
  | pumpStep m => exact ⟨_, rfl, .of_keeps (keeps_pump s m)⟩
  | stall m => exact ⟨_, rfl, .of_keeps (keeps_stall s m)⟩
  | floatTrip c => exact ⟨_, rfl, (clockKept_floatTrip s c).conclude⟩
  | floatClear c => exact ⟨_, rfl, clockKept_concluded rfl⟩
  | weighReading count ms => exact ⟨_, rfl, clockKept_ite (clockKept_weighReading s count ms)⟩
  | strayLoad => exact ⟨_, rfl, .of_keeps (keeps_strayTest s)⟩
  | stationSelect => exact ⟨_, rfl, .of_keeps ((keeps_select s).trans (keeps_noticePresence _))⟩
  | drawEnd => exact ⟨_, rfl, clockKept_ite (.of_keeps (keeps_startSettle s _))⟩
  | unparkEnd => exact ⟨_, rfl, clockKept_ite (ClockKept.of_keeps (keeps_endUnpark s)).conclude⟩
  | settleEnd => exact execSettleEnd_clock s
  | parkEnd => exact ⟨_, rfl, clockKept_ite (clockKept_endPark s).conclude⟩
  | dischargeEnd => exact ⟨_, rfl, clockKept_ite (ClockKept.of_keeps (keeps_endDischarge s)).conclude⟩
  | rejectEnd => exact ⟨_, rfl, clockKept_ite (ClockKept.of_keeps (keeps_endReject s)).conclude⟩
  | loadEnd k => exact ⟨_, rfl, clockKept_ite (.of_keeps (keeps_startMixRun s k))⟩
  | mixRunComplete k => exact ⟨_, rfl, .of_keeps (keeps_mixRunComplete s k)⟩
  | imbalance k => exact ⟨_, rfl, .of_keeps (keeps_imbalance s k)⟩
  | reclampEnd k => exact ⟨_, rfl, clockKept_ite (.of_keeps (keeps_startMixRun s k))⟩
  | unloadEnd k => exact ⟨_, rfl, clockKept_ite (ClockKept.of_keeps (keeps_endUnload s k)).conclude⟩
  | feedEnd present => exact execFeedEnd_clock present s
  | reseatLidPresent present => exact execReseatLidPresent_clock present s
  | seatEnd force => exact execSeatEnd_clock force s
  | ejectionEnd => exact execEjectionEnd_clock s
  | _ => cases hreq

/-! ## Every command -/

/-- The line clock under every command but the tick and power-on (R163). -/
theorem exec_clock {i : Instr} (htick : i ≠ .lineClockTick) (hpor : ∀ e f, i ≠ .powerOnReset e f) (s : State) :
    ∃ t, exec i s = .next t ∧ ClockKept s t := by
  cases hreq : requestOf i with
  | none => exact exec_event_clock hreq htick hpor s
  | some request =>
    obtain ⟨k, body⟩ := request
    exact ⟨_, exec_request hreq s, clockKept_serve s k body⟩

/-- The tests of a second leave the clock at the count of that second (R163). -/
theorem lineClockTick_clock (s : State) : s.countSecond.clockTests.line.clock = s.line.clock + 1 := (keeps_clockTests s.countSecond).clock

/-- A 32-bit count that rises by 1 passes from its top to 0 (R163). -/
theorem Clock.toNat_add_one (c : Clock) : (c + 1).toNat = if c.toNat = 4294967295 then 0 else c.toNat + 1 := by
  have hlt : c.toNat < 4294967296 := c.isLt
  rw [BitVec.toNat_add]
  split <;> simp <;> omega

/-- Settles O9: every command but the tick and power-on keeps the clock; the tick's tests follow its count, and the start-up stirs of
power-on follow its values. -/
theorem clockMovesOnlyWithTheTick : Obligations.ClockMovesOnlyWithTheTick := by
  refine ⟨fun s => ⟨_, rfl, ?_⟩, fun e f s => ⟨_, rfl, ?_⟩, fun i s htick hpor => exec_clock htick hpor s⟩
  · rw [lineClockTick_clock, Clock.toNat_add_one]
  · exact (keeps_stirTests (State.powerOnValues e f s.pending)).clock

end Sys2Proof.LineModes
end

section
/-! PROOFS. RESET: refused where a tin may be in the machine, and the values that every block takes otherwise (O59). -/
namespace Sys2Proof.LineModes

open Sys2Proof Sys2Proof.Machine
open Sys2Proof.ColourantBank (exec_answered softReset_canister)
open Sys2Proof.Lidding (softReset_magazines)

/-! ## The stir tests -/

/-- A drive `e` after a stir test of a drive `d`: the same, or an IDLE drive that has started a stir (R68). -/
def StirTested (d e : Drive) : Prop := e = d ∨ (d.state = .idle ∧ ∃ n, e = { d with state := .stirring 0 n })

section
variable {d e f : Drive}

theorem StirTested.trans (a : StirTested d e) (b : StirTested e f) : StirTested d f := by
  rcases a with rfl | ⟨hidle, n, rfl⟩
  · exact b
  · rcases b with rfl | ⟨hstirring, -⟩
    · exact .inr ⟨hidle, n, rfl⟩
    · cases hstirring

theorem StirTested.counts (h : StirTested d e) : e.stirClock = d.stirClock ∧ e.stale = d.stale ∧ e.halted = d.halted := by
  rcases h with rfl | ⟨-, n, rfl⟩ <;> exact ⟨rfl, rfl, rfl⟩

/-- Only an IDLE drive starts a stir. -/
theorem StirTested.state (h : StirTested d e) (hbusy : d.state ≠ .idle) : e.state = d.state := by
  rcases h with rfl | ⟨hidle, -⟩
  · rfl
  · exact absurd hidle hbusy

end

theorem stirTest_drive (s : State) (m n : Manifold) : StirTested (s.drive n) ((s.stirTest m).drive n) := by
  fun_cases State.stirTest s m with
  | case1 d hdue =>
    by_cases hm : n = m
    · subst hm
      exact .inr ⟨hdue.1, s.line.settings.stirDuration, by simp [d]⟩
    · exact .inl (by simp [hm])
  | case2 => exact .inl rfl

theorem stirTests_drive (s : State) (m : Manifold) : StirTested (s.drive m) (s.stirTests.drive m) :=
  (stirTest_drive s .a m).trans (stirTest_drive _ .b m)

theorem stirTest_eq (s : State) (m : Manifold) : s.stirTest m = { s with drives := (s.stirTest m).drives } := by
  fun_cases State.stirTest s m
  · cases m <;> rfl
  · rfl

/-- The stir tests change the drives alone (R68). -/
theorem stirTests_eq (s : State) : s.stirTests = { s with drives := s.stirTests.drives } := by
  rw [State.stirTests, stirTest_eq (s.stirTest .a) .b, stirTest_eq s .a]

theorem stirTests_magazines (s : State) : s.stirTests.magazines = s.magazines := by rw [stirTests_eq]

theorem stirTests_pending (s : State) : s.stirTests.pending = s.pending := by rw [stirTests_eq]

/-! ## The reply -/

section
variable (s : State) (k : RequestKind) (r : Result) (fields : List Byte)

theorem answered_magazines : (s.answered k r fields).magazines = s.magazines := rfl

theorem answered_pending : (s.answered k r fields).pending = s.pending := rfl

end

/-! ## RESET -/

theorem occupied_iff (s : State) : s.occupied = true ↔ s.line.presence.tinAtStation = true ∨ s.line.presence.tinInMix = true ∨
    s.line.presence.tinInLid = true ∨ ∃ k, (s.mixer k).state = .fault := by
  have hmixers : (∃ k, (s.mixer k).state = .fault) ↔ s.mixers.m0.state = .fault ∨ s.mixers.m1.state = .fault :=
    ⟨fun ⟨k, hk⟩ => by
      cases k with
      | m0 => exact .inl hk
      | m1 => exact .inr hk,
    fun h => h.elim (⟨.m0, ·⟩) (⟨.m1, ·⟩)⟩
  simp [State.occupied, hmixers, or_assoc]

theorem softReset_drive (s : State) (m : Manifold) : s.softReset.drive m = (s.drive m).softReset s.line.estop := by
  cases m <;> rfl

theorem foldl_softReset_pending (l : List CanisterId) (s : State) :
    (l.foldl (fun (k : State) c => k.setCanister c (k.canister c).softReset) s).pending = s.pending := by
  induction l generalizing s with
  | nil => rfl
  | cons c l ih => exact ih (s.setCanister c (s.canister c).softReset)

theorem softReset_pending (s : State) : s.softReset.pending = s.pending := by
  simp only [State.softReset, State.resetBank, foldl_softReset_pending]

/-- A drive after RESET and the stir tests that follow it: its clock, its stale flag, its stir and its fault are kept (R80). -/
theorem softReset_stirTests_drive (s : State) (m : Manifold) :
    let d := s.softReset.stirTests.drive m
    d.stirClock = (s.drive m).stirClock ∧ d.stale = (s.drive m).stale ∧ d.halted = s.line.estop ∧
      (∀ a n, (s.drive m).state = .stirring a n → d.state = .stirring a n) ∧
      (∀ f, (s.drive m).state = .faulted f → d.state = .faulted f) := by
  have htested := stirTests_drive s.softReset m
  rw [softReset_drive] at htested
  obtain ⟨hclock, hstale, hhalted⟩ := htested.counts
  refine ⟨hclock, hstale, hhalted, fun a n hstirring => ?_, fun f hfaulted => ?_⟩
  · have hreset : ((s.drive m).softReset s.line.estop).state = .stirring a n := by rw [Drive.softReset, hstirring]
    rw [htested.state (by simp [hreset]), hreset]
  · have hreset : ((s.drive m).softReset s.line.estop).state = .faulted f := by rw [Drive.softReset, hfaulted]
    rw [htested.state (by simp [hreset]), hreset]

section
variable {s : State} (hserves : s.link.serves RequestKind.reset.code [] = true)
include hserves

theorem exec_reset_of_occupied (h : s.occupied = true) :
    exec (.reset []) s = .next (s.beginService.answered .reset .occupied []) :=
  exec_answered (i := .reset []) rfl hserves (if_pos h)

theorem exec_reset_of_free (h : ¬ s.occupied = true) :
    exec (.reset []) s = .next (s.beginService.softReset.stirTests.answered .reset .ok []) :=
  exec_answered (i := .reset []) rfl hserves (if_neg h)

end

/-- Settles O59: the values of an accepted RESET stand after the stir tests, which change the drives alone, and the reply, which is the
link's. -/
theorem resetTable : Obligations.ResetTable := by
  intro s hserves p occupied e
  have hoccupied : s.occupied = true ↔ occupied := occupied_iff s
  refine ⟨fun h => exec_reset_of_occupied hserves (hoccupied.2 h), fun h => ?_⟩
  refine ⟨_, exec_reset_of_free hserves (mt hoccupied.1 h), ?_⟩
  have hmagazines : (s.beginService.softReset.stirTests.answered .reset .ok []).magazines = s.magazines := by
    rw [answered_magazines, stirTests_magazines, softReset_magazines, State.beginService_magazines]
  have hpending : (s.beginService.softReset.stirTests.answered .reset .ok []).pending = s.pending := by
    rw [answered_pending, stirTests_pending, softReset_pending, State.beginService_pending]
  have hdrives := softReset_stirTests_drive s.beginService
  have hcanisters := softReset_canister s.beginService
  have hmixers : ∀ k, s.beginService.softReset.mixer k = Mixer.atReset e := fun k => by cases k <;> rfl
  have hshelves : ∀ i : ShelfId, s.beginService.softReset.rack.shelves[i] = .free := fun i => Vector.getElem_replicate i.isLt
  rw [stirTests_eq] at hmagazines hpending ⊢
  exact ⟨rfl, hcanisters, hdrives, rfl, rfl, rfl, rfl, rfl, rfl, hshelves, rfl, rfl, rfl, hmixers, rfl, hmagazines, rfl, rfl, rfl,
    rfl, rfl, rfl, rfl, rfl, rfl, rfl, hpending⟩

end Sys2Proof.LineModes
end

section
/-! PROOFS. What a posting and a FETCH do to the Report Queue (O23, O22). -/
namespace Sys2Proof.ReportQueue

open Sys2Proof Sys2Proof.Machine
open Sys2Proof.ColourantBank (ownerOf exec_served)

/-! ## A posting (R166 to R169) -/

theorem overflowUp_eq (n : Nat) : overflowUp n = if 255 ≤ n then 255 else n + 1 := by
  unfold overflowUp Config.overflowTop
  split <;> omega

section
variable {r : Reports} {e : Entry}

theorem add_of_room (h : r.queue.length < 64) : r.add e = { queue := r.queue ++ [e], overflow := r.overflow } := if_pos h

theorem add_of_full (h : r.queue.length = 64) : r.add e =
    if e.urgent && r.queue.any (fun x => !x.urgent) then
      { queue := r.queue.eraseP (fun x => !x.urgent) ++ [e], overflow := overflowUp r.overflow }
    else { r with overflow := overflowUp r.overflow } := if_neg (by simp [h, Config.reportSlots])

/-- A record is lost into a full queue where it is not urgent, or where no record can make room for it (R168). -/
theorem add_discarded (h : r.queue.length = 64) (hlost : e.urgent = false ∨ ∀ x ∈ r.queue, x.urgent = true) :
    r.add e = { queue := r.queue, overflow := overflowUp r.overflow } := by
  rw [add_of_full h, if_neg]
  rcases hlost with hroutine | hurgent
  · simp [hroutine]
  · simpa using fun _ => hurgent

/-- The record displaced is the non-urgent one nearest the head (R168). -/
theorem eraseP_nearest {before after : List Entry} {old : Entry} (hold : old.urgent = false)
    (hbefore : ∀ x ∈ before, x.urgent = true) : (before ++ old :: after).eraseP (fun x => !x.urgent) = before ++ after := by
  rw [List.eraseP_append_right _ (by simpa using hbefore), List.eraseP_cons_of_pos (by simp [hold])]

theorem add_displacing {before after : List Entry} {old : Entry} (h : r.queue.length = 64) (hurgent : e.urgent = true)
    (hqueue : r.queue = before ++ old :: after) (hold : old.urgent = false) (hbefore : ∀ x ∈ before, x.urgent = true) :
    r.add e = { queue := before ++ after ++ [e], overflow := overflowUp r.overflow } := by
  have hfound : r.queue.any (fun x => !x.urgent) = true := by simp [hqueue, hold]
  rw [add_of_full h, if_pos (by simp [hurgent, hfound]), hqueue, eraseP_nearest hold hbefore]

end

/-- Settles O23: the urgency of each kind, and a queue with room, and a full one by whether a record can make room. -/
theorem fullQueuePosting : Obligations.FullQueuePosting := by
  refine ⟨fun s notify kind detail subject value => ⟨?_, rfl⟩, fun r e h => add_of_room h, fun r e h => ⟨?_, ?_, ?_⟩⟩
  · cases kind <;> rfl
  · intro hroutine
    rw [add_discarded h (.inl hroutine), overflowUp_eq]
  · intro before after old hurgent hqueue hold hbefore
    rw [add_displacing h hurgent hqueue hold hbefore, overflowUp_eq]
  · intro _ hall
    rw [add_discarded h (.inr hall), overflowUp_eq]

/-! ## FETCH (R170) -/

/-- A number brought into 1 to 8 (R170). -/
theorem clampTo_fetch (n : Nat) : clampTo 1 8 n = if n = 0 then 1 else if 8 < n then 8 else n := by
  unfold clampTo
  split
  · omega
  · split <;> omega

theorem okOrClamped_fetch (n : Nat) : okOrClamped (outside 1 8 n) = if n = 0 ∨ 8 < n then .clamped else .ok := by
  simp [okOrClamped, outside]

theorem fetchRequest_eq (s : State) (b : Byte) : s.fetchRequest [b] =
    { result := okOrClamped (outside 1 8 b.toNat)
      fields := enc1 (min (clampTo 1 8 b.toNat) s.reports.queue.length) ++ enc1 s.reports.overflow ++
        enc1 (s.reports.queue.length - clampTo 1 8 b.toNat) ++
        (s.reports.queue.take (clampTo 1 8 b.toNat)).flatMap (·.record.bytes)
      state := s.withReports { queue := s.reports.queue.drop (clampTo 1 8 b.toNat), overflow := 0 } } := by
  simp only [State.fetchRequest, List.length_take, List.length_drop]

/-- Settles O22: the records taken are the queue's first, and each is sent field by field. -/
theorem fetchTakesOldestRecords : Obligations.FetchTakesOldestRecords := by
  constructor
  · intro s b hserves
    rw [exec_served (i := .fetch [b]) rfl hserves]
    simp only [ownerOf, fetchRequest_eq, Answer.send_eq, okOrClamped_fetch, clampTo_fetch, State.beginService_reports]
    rfl
  · rintro ⟨kind, detail, subject, value, time⟩
    cases kind <;> rfl

end Sys2Proof.ReportQueue
end

section
/-! PROOFS. What a command can do to the state, said once: it writes records that the shared operations leave alone, each write one of those
named by `Write`, and between the writes it does what `Keeps` allows. -/
namespace Sys2Proof.ReportQueue

open Sys2Proof Sys2Proof.Machine
open Sys2Proof.ColourantBank (ownerOf exec_request keeps_firstBoundary)
open Sys2Proof.Lidding (keeps_completeStir keeps_pump keeps_stall keeps_haltBlocks keeps_strayTest keeps_endUnpark
  keeps_endDischarge keeps_endReject keeps_settleDraw keeps_startMixRun keeps_mixRunComplete keeps_imbalance keeps_endUnload
  keeps_forceCheck keeps_endEjection keeps_endWake keeps_resume ident_state lineQuery_state)

/-! ## The course of a command -/

/-- The writes of the commands that no shared operation makes. -/
inductive Write (s : State) : State → Prop where
  /-- The link's own records: what is received, what waits, the count and the reply. ATTN is the Report Queue's (R171). -/
  | link (l : Link) (h : l.attn = s.link.attn) : Write s { s with link := l }
  /-- FETCH (R170). -/
  | fetch (n : Nat) : Write s (s.withReports { queue := s.reports.queue.drop n, overflow := 0 })
  /-- ORDER admitted (R18). -/
  | admission (o : OrderBody) (size : Size) (base : Base) (doses : List Dose) (dropped : Nat) :
      Write s (s.admitJob o size base doses dropped)
  /-- RELEASE (R22). -/
  | release (t : Tag) : Write s { s with orders := { s.orders with jobs := s.orders.jobs.filter (fun j => j.tag ≠ t) } }
  /-- A canister's record: CANISTER_SET, CANISTER_STATE, REFILL and the floats (R49 to R58). -/
  | canister (c : CanisterId) (k : Canister) : Write s (s.setCanister c k)
  /-- STOCK_LOAD and STOCK_SET (R152). -/
  | stock (i : Item) (z : Size) (n : Nat) : Write s (s.setStock i z n)
  /-- LINE_SET (R159). -/
  | settings (v : Settings) : Write s (s.setSettings v)
  /-- LINE_MODE with a working mode (R158). -/
  | working (w : WorkMode) : Write s { s with line := { s.line with working := w } }
  /-- RESET (R162). -/
  | softReset : Write s s.softReset
  /-- POWER_ON_RESET (R165). -/
  | powerOn (estop : Bool) (floats : BitVec 16) : Write s (State.powerOnValues estop floats s.pending)
  /-- LINE_CLOCK_TICK (R163). -/
  | second : Write s s.countSecond
  /-- ESTOP_ASSERTION (R160). -/
  | halt : Write s { s with line := s.line.halt }
  /-- ESTOP_RELEASE (R160). -/
  | estopReleased : Write s { s with line := { s.line with estop := false } }
  /-- WEIGH_READING (R82). -/
  | reading (count : Int) (ms : Nat) : Write s (s.takeReading count ms)
  /-- The auto-tare that a reading can give rise to (R83). -/
  | tare : Write s s.autoTare

/-- A course of writes and of changes by shared operations. -/
inductive Course (s : State) : State → Prop where
  | refl : Course s s
  | write {t u : State} (a : Course s t) (w : Write t u) : Course s u
  | keeps {t u : State} (a : Course s t) (k : Keeps t u) : Course s u

section
variable {s t u : State}

theorem Course.trans (a : Course s t) (b : Course t u) : Course s u := by
  induction b with
  | refl => exact a
  | write _ w ih => exact ih.write w
  | keeps _ k ih => exact ih.keeps k

theorem Course.of_write (w : Write s t) : Course s t := Course.refl.write w

theorem Course.of_keeps (k : Keeps s t) : Course s t := Course.refl.keeps k

theorem Course.conclude (a : Course s t) : Course s t.conclude := a.keeps (keeps_conclude t)

theorem course_ite {p : Prop} [Decidable p] (a : Course s t) : Course s (if p then t else s) := by
  split
  · exact a
  · exact .refl

end

/-! ## The link's writes leave ATTN -/

theorem overrun_attn (l : Link) : l.overrun.attn = l.attn := rfl

theorem discard_attn (l : Link) (e : LinkErr) : (l.discard e).attn = l.attn := by
  fun_cases Link.discard l e <;> rfl

theorem complete_attn (l : Link) (len : Nat) (kind : Byte) (body : Body) (high low : Byte) :
    (l.complete len kind body high low).attn = l.attn := by
  fun_cases Link.complete l len kind body high low with
  | case1 => rfl
  | case2 => exact discard_attn l .badCheck

/-- Only a byte that completes a frame (`case8`) reaches further than the assembler (R174, R175). -/
theorem take_attn (l : Link) (b : Byte) : (l.take b).attn = l.attn := by
  fun_cases Link.take l b with
  | case8 => exact complete_attn l _ _ _ _ b
  | _ => rfl

theorem receive_attn (l : Link) (b : Byte) : (l.receive b).attn = l.attn := by
  fun_cases Link.receive l b with
  | case1 => exact overrun_attn l
  | case2 => exact take_attn l b

theorem course_beginService (s : State) : Course s s.beginService := .of_write (.link _ rfl)

theorem course_waitService (s : State) (kind : Byte) (body : Body) : Course s (s.waitService kind body) := by
  refine .of_write (.link _ ?_)
  split_ifs <;> rfl

theorem course_send (a : Answer) (k : RequestKind) : Course a.state (a.send k) := .of_write (.link _ rfl)

/-! ## The end of a park is the shared operations' -/

/-- Renumbering touches PARKED jobs alone, and no tag (R111). -/
theorem keeps_renumber (s : State) : Keeps s { s with orders := { s.orders with jobs := renumber s.orders.jobs } } :=
  { Keeps.refl s with
    finished := fun j hj hf => by
      refine List.mem_map.2 ⟨j, hj, ?_⟩
      cases hstate : j.state <;> simp_all [Job.finished]
    tags := by
      simp only [renumber, List.map_map]
      refine List.map_congr_left (fun j _ => ?_)
      simp only [Function.comp]
      split <;> rfl }

theorem keeps_renumberRack (s : State) : Keeps s s.renumberRack := by
  fun_cases State.renumberRack s with
  | case1 => exact (keeps_renumber s).trans (keeps_rack _ _)
  | case2 => exact .refl s

theorem keeps_jobParked (s : State) (t : Tag) (reason : ParkReason) (n : Nat) : Keeps s (s.jobParked t reason n) :=
  keeps_moveJob s t _ _ (by intro; rfl)

theorem keeps_leaveOnShelf (s : State) (t : Tag) (i : ShelfId) (reason : ParkReason) : Keeps s (s.leaveOnShelf t i reason) := by
  have hshelf := (keeps_renumberRack s).trans (keeps_setShelf _ i (.holding t))
  exact (((hshelf.trans (keeps_rack _ _)).trans (keeps_jobParked _ t reason _)).trans (keeps_post _ _ _ _ _)).trans
    (keeps_stationEmpty _)

theorem keeps_endPark (s : State) : Keeps s s.endPark := by
  fun_cases State.endPark s with
  | case1 => exact (keeps_freeShelfAt s _).trans (keeps_startReject _)
  | case2 => exact keeps_leaveOnShelf s _ _ _
  | case3 => exact .refl s

/-! ## What the owners share -/

section
variable {s : State}

theorem course_withJob {f : Job → Answer} (h : ∀ j, Course s (f j).state) (body : Body) : Course s (s.withJob body f).state := by
  fun_cases State.withJob s body f with
  | case3 _ _ _ _ j => exact h j
  | _ => exact .refl

theorem course_withCanister {f : CanisterId → Answer} (h : ∀ c, Course s (f c).state) (b : Byte) :
    Course s (s.withCanister b f).state := by
  fun_cases State.withCanister s b f with
  | case2 c => exact h c
  | _ => exact .refl

theorem course_withStock {f : Item → Size → Answer} (h : ∀ i z, Course s (f i z).state) (item size : Byte) :
    Course s (s.withStock item size f).state := by
  fun_cases State.withStock s item size f with
  | case3 i _ z => exact h i z
  | _ => exact .refl

end

/-! ## The Order Table's requests -/

/-- An ORDER changes the state where it is admitted (`case9`), and not where a check fails (R13 to R18). -/
theorem course_order (body : Body) (s : State) : Course s (s.orderRequest body).state := by
  fun_cases State.orderRequest body s with
  | case9 => exact (Course.of_write (.admission _ _ _ _ _)).conclude
  | _ => exact .refl

/-- A QUEUED job is finished at once (`case1`); a DOSING or PARKED one is marked (R19, R20). -/
theorem course_cancelJob (s : State) (j : Job) : Course s (s.cancelJob j).state := by
  have hmarked : Course s (if j.cancelPending then s else (s.setCancelPending j.tag).conclude) := by
    split
    · exact .refl
    · exact (Course.of_keeps (keeps_updateLive s j.tag _ (by intro; rfl))).conclude
  fun_cases State.cancelJob s j with
  | case1 => exact (Course.of_keeps (keeps_finishJob s _ _)).conclude
  | case2 => exact hmarked
  | case3 => exact hmarked
  | _ => exact .refl

theorem course_releaseJob (s : State) (j : Job) : Course s (s.releaseJob j).state := by
  fun_cases State.releaseJob s j with
  | case1 => exact .of_write (.release j.tag)
  | case2 => exact .refl

theorem course_jobQuery (body : Body) (s : State) : Course s (ownerOf .jobQuery body s).state := by
  refine course_withJob (fun _ => ?_) body
  exact .refl

/-! ## The Colourant Bank's requests -/

theorem course_canisterSet (body : Body) (s : State) : Course s (s.canisterSetRequest body).state := by
  fun_cases State.canisterSetRequest body s with
  | case1 =>
    refine course_withCanister (fun c => ?_) _
    fun_cases State.setCanisterFields with
    | case3 => exact .of_write (.canister c _)
    | _ => exact .refl
  | case2 => exact .refl

theorem course_examine (s : State) (c : CanisterId) : Course s (s.examine c) := by
  fun_cases State.examine s c with
  | case1 => exact (Course.of_write (.canister c _)).keeps (keeps_post _ _ _ _ _)
  | case2 => exact (Course.of_write (.canister c _)).keeps (keeps_post _ _ _ _ _)
  | case3 => exact .of_write (.canister c _)

theorem course_answerState {s t : State} (h : Course s t) (c : CanisterId) (r : Result) (changed : Bool) :
    Course s (t.answerState c r changed).state := by
  cases changed
  · exact h
  · exact h.conclude

theorem course_canisterOffline (s : State) (c : CanisterId) : Course s (s.canisterOffline c).state := by
  fun_cases State.canisterOffline s c with
  | case1 => exact .refl
  | case2 => exact .refl
  | case3 => exact course_answerState (.of_write (.canister c _)) c _ _
  | case4 => exact course_answerState (.of_write (.canister c _)) c _ _

theorem course_canisterOnline (s : State) (c : CanisterId) : Course s (s.canisterOnline c).state := by
  fun_cases State.canisterOnline s c with
  | case1 => exact .refl
  | case2 => exact course_answerState (.of_write (.canister c _)) c _ _
  | case3 => exact course_answerState (course_examine s c) c _ _

theorem course_canisterClearCheck (s : State) (c : CanisterId) : Course s (s.canisterClearCheck c).state := by
  fun_cases State.canisterClearCheck s c with
  | case1 => exact .refl
  | case2 => exact course_answerState ((Course.of_write (.canister c _)).trans (course_examine _ c)) c _ _

theorem course_canisterState (body : Body) (s : State) : Course s (s.canisterStateRequest body).state := by
  fun_cases State.canisterStateRequest body s with
  | case1 =>
    refine course_withCanister (fun c => ?_) _
    split_ifs
    · exact course_canisterOffline s c
    · exact course_canisterOnline s c
    · exact course_canisterClearCheck s c
    · exact .refl
  | case2 => exact .refl

theorem course_canisterQuery (body : Body) (s : State) : Course s (s.canisterQueryRequest body).state := by
  fun_cases State.canisterQueryRequest body s with
  | case1 =>
    refine course_withCanister (fun _ => ?_) _
    exact .refl
  | case2 => exact .refl

/-- A refill changes a canister that is OFFLINE (`case5`) or SHORT (`case6`) (R57). -/
theorem course_refill (body : Body) (s : State) : Course s (s.refillRequest body).state := by
  fun_cases State.refillRequest body s with
  | case1 =>
    refine course_withCanister (fun c => ?_) _
    fun_cases State.refillCanister with
    | case5 => exact (Course.of_write (.canister c _)).conclude
    | case6 => exact (Course.of_write (.canister c _)).conclude
    | _ => exact .refl
  | case2 => exact .refl

/-! ## Magazine Counts' requests -/

theorem course_storeStock (s : State) (item size : Byte) (i : Item) (z : Size) (n : Nat) :
    Course s (s.storeStock item size i z n).state := (Course.of_write (.stock i z _)).conclude

theorem course_stockLoad (body : Body) (s : State) : Course s (s.stockLoadRequest body).state := by
  fun_cases State.stockLoadRequest body s with
  | case1 =>
    refine course_withStock (fun i z => ?_) _ _
    split_ifs
    · exact .refl
    · exact course_storeStock s _ _ i z _
  | case2 => exact .refl

theorem course_stockSet (body : Body) (s : State) : Course s (s.stockSetRequest body).state := by
  fun_cases State.stockSetRequest body s with
  | case1 => exact course_withStock (fun i z => course_storeStock s _ _ i z _) _ _
  | case2 => exact .refl

/-! ## Line Mode Control's requests -/

theorem course_lineSet (body : Body) (s : State) : Course s (s.lineSetRequest body).state := by
  fun_cases State.lineSetRequest body s with
  | case1 => exact (Course.of_write (.settings _)).keeps (keeps_clockTests _)
  | case2 => exact .refl

theorem course_answerMode {s t : State} (h : Course s t) (r : Result) (changed : Bool) :
    Course s (t.answerMode r changed).state := by
  cases changed
  · exact h
  · exact h.conclude

/-- A request for a working mode is refused in HALTED (`case1`); otherwise it starts the wake (`case2`, `case3`), enters that mode (`case6`,
`case8`), or changes no mode (R158). -/
theorem course_requestWork (s : State) (w : WorkMode) : Course s (s.requestWork w).state := by
  have hworking : Course s { s with line := { s.line with working := w } } := .of_write (.working w)
  fun_cases State.requestWork s w with
  | case1 => exact .refl
  | case2 => exact course_answerMode (hworking.keeps (keeps_startWake _)) _ _
  | case3 => exact course_answerMode (hworking.keeps (keeps_startWake _)) _ _
  | case6 => exact course_answerMode (hworking.keeps (keeps_enterMode _ _)) _ _
  | case8 => exact course_answerMode (hworking.keeps (keeps_enterMode _ _)) _ _
  | _ => exact hworking

/-- An idle line goes to SLEEP from the four other modes (`case3` to `case9`); otherwise nothing changes (R158). -/
theorem course_requestSleep (s : State) : Course s s.requestSleep.state := by
  have hslept : Course s (s.startSleep.answerMode .ok true).state := course_answerMode (.of_keeps (keeps_startSleep s)) _ _
  fun_cases State.requestSleep s with
  | case3 => exact hslept
  | case5 => exact hslept
  | case7 => exact hslept
  | case9 => exact hslept
  | _ => exact .refl

theorem course_lineMode (body : Body) (s : State) : Course s (s.lineModeRequest body).state := by
  fun_cases State.lineModeRequest body s with
  | case1 => exact course_requestWork s _
  | case2 => exact course_requestWork s _
  | case3 => exact course_requestSleep s
  | _ => exact .refl

theorem course_lineResume (body : Body) (s : State) : Course s (s.lineResumeRequest body).state := by
  fun_cases State.lineResumeRequest body s with
  | case3 => exact (Course.of_keeps (keeps_resume s)).conclude
  | _ => exact .refl

theorem course_reset (body : Body) (s : State) : Course s (s.resetRequest body).state := by
  fun_cases State.resetRequest body s with
  | case2 => exact (Course.of_write .softReset).keeps (keeps_stirTests _)
  | _ => exact .refl

/-! ## CLEAR_FAULT -/

theorem course_clearDrive (s : State) (m : Manifold) : Course s (s.clearDrive m).state := by
  fun_cases State.clearDrive s m with
  | case1 => exact (Course.of_keeps (keeps_setDrive s m _)).conclude
  | case2 => exact .refl

theorem course_clearMixer (s : State) (k : MixerId) : Course s (s.clearMixer k).state := by
  fun_cases State.clearMixer s k with
  | case1 => exact (Course.of_keeps (keeps_setMixer s k _)).conclude
  | case2 => exact .refl

theorem course_clearPress (s : State) : Course s s.clearPress.state := by
  fun_cases State.clearPress s with
  | case1 => exact (Course.of_keeps (keeps_press s _)).conclude
  | case2 => exact .refl

theorem course_clearFault (body : Body) (s : State) : Course s (s.clearFaultRequest body).state := by
  fun_cases State.clearFaultRequest body s with
  | case1 => exact course_clearDrive s .a
  | case2 => exact course_clearDrive s .b
  | case3 => exact course_clearMixer s .m0
  | case4 => exact course_clearMixer s .m1
  | case5 => exact course_clearPress s
  | _ => exact .refl

/-! ## Every request -/

theorem course_fetch (body : Body) (s : State) : Course s (s.fetchRequest body).state := by
  fun_cases State.fetchRequest body s with
  | case1 => exact .of_write (.fetch _)
  | case2 => exact .refl

theorem course_of_eq {s t : State} (h : t = s) : Course s t := h ▸ .refl

theorem course_ownerOf (k : RequestKind) (body : Body) (s : State) : Course s (ownerOf k body s).state := by
  cases k with
  | ident => exact course_of_eq (ident_state body s)
  | order => exact course_order body s
  | cancel => exact course_withJob (course_cancelJob s) body
  | jobQuery => exact course_jobQuery body s
  | release => exact course_withJob (course_releaseJob s) body
  | canisterSet => exact course_canisterSet body s
  | canisterState => exact course_canisterState body s
  | refill => exact course_refill body s
  | canisterQuery => exact course_canisterQuery body s
  | stockLoad => exact course_stockLoad body s
  | stockSet => exact course_stockSet body s
  | lineSet => exact course_lineSet body s
  | lineMode => exact course_lineMode body s
  | lineResume => exact course_lineResume body s
  | clearFault => exact course_clearFault body s
  | lineQuery => exact course_of_eq (lineQuery_state body s)
  | fetch => exact course_fetch body s
  | reset => exact course_reset body s

theorem course_serve (s : State) (k : RequestKind) (body : Body) : Course s (s.serve k body (ownerOf k body)) := by
  fun_cases State.serve with
  | case1 => exact ((course_beginService s).trans (course_ownerOf k body _)).trans (course_send _ k)
  | case2 => exact course_waitService s _ body

/-! ## The other commands -/

theorem course_unknownKind (kind : Byte) (body : Body) (s : State) :
    ∃ t, execUnknownKind kind body s = .next t ∧ Course s t := by
  refine ⟨_, rfl, ?_⟩
  split_ifs
  · exact .refl
  · exact .of_write (.link _ rfl)
  · exact course_waitService s kind body

theorem course_serveLinkErr (s : State) : ∃ t, execServeLinkErr s = .next t ∧ Course s t := by
  fun_cases execServeLinkErr s with
  | case1 => exact ⟨_, rfl, .of_write (.link _ rfl)⟩
  | case2 => exact ⟨s, rfl, .refl⟩

theorem course_gapTimerExpiry (s : State) : ∃ t, execGapTimerExpiry s = .next t ∧ Course s t := by
  refine ⟨_, rfl, ?_⟩
  split
  · exact .refl
  · exact .of_write (.link _ (discard_attn s.link .truncated))

/-- In service, the canister goes SHORT, the report is posted and a run on it ends; otherwise the float is recorded (R49, R50, R72). -/
theorem course_floatTrip (s : State) (c : CanisterId) : Course s (s.floatTrip c) := by
  fun_cases State.floatTrip s c with
  | case1 => exact ((Course.of_write (.canister c _)).keeps (keeps_post _ _ _ _ _)).keeps (keeps_endRun _ _ _ _)
  | case2 => exact (Course.of_write (.canister c _)).keeps (keeps_post _ _ _ _ _)
  | case3 => exact .of_write (.canister c _)

theorem course_weighReading (s : State) (count : Int) (ms : Nat) :
    Course s ((s.takeReading count ms).autoTare.strayTest).conclude :=
  (((Course.of_write (.reading count ms)).write .tare).keeps (keeps_strayTest _)).conclude

theorem course_assertEstop (s : State) : Course s s.assertEstop := by
  have hhalted := ((Course.of_write (s := s) .halt).keeps (keeps_haltBlocks _)).keeps (keeps_post _ .estop 1 0 0)
  fun_cases State.assertEstop s with
  | case1 => exact hhalted
  | case2 => exact hhalted.keeps (keeps_post _ _ _ _ _)

theorem course_settleEnd (s : State) : ∃ t, execSettleEnd s = .next t ∧ Course s t := by
  refine ⟨_, rfl, ?_⟩
  split
  · exact .refl
  · split
    · exact (Course.of_keeps (keeps_settleDraw s)).conclude
    · exact (Course.of_keeps (keeps_firstBoundary s)).conclude
    · exact (Course.of_keeps (keeps_judge s)).conclude
    · exact .refl

theorem course_feedEnd (present : Bool) (s : State) : ∃ t, execFeedEnd present s = .next t ∧ Course s t := by
  refine ⟨_, rfl, course_ite ?_⟩
  split
  · exact .of_keeps (keeps_setPress s _)
  · split
    · exact .refl
    · exact (Course.of_keeps (keeps_lidMissing s _ .first)).conclude

theorem course_reseatLidPresent (present : Bool) (s : State) : ∃ t, execReseatLidPresent present s = .next t ∧ Course s t := by
  refine ⟨_, rfl, course_ite ?_⟩
  split
  · exact .refl
  · exact (Course.of_keeps (keeps_lidMissing s _ .retry)).conclude

theorem course_seatEnd (force : Force) (s : State) : ∃ t, execSeatEnd force s = .next t ∧ Course s t := by
  refine ⟨_, rfl, course_ite ?_⟩
  split
  · exact .refl
  · exact (Course.of_keeps (keeps_forceCheck s _ force)).conclude

theorem course_ejectionEnd (s : State) : ∃ t, execEjectionEnd s = .next t ∧ Course s t := by
  refine ⟨_, rfl, ?_⟩
  split
  · split
    · exact .refl
    · exact (Course.of_keeps (keeps_endEjection s _)).conclude
  · exact .refl

theorem course_event {i : Instr} (hreq : requestOf i = none) (s : State) : ∃ t, exec i s = .next t ∧ Course s t := by
  cases i with
  | powerOnReset e f => exact ⟨_, rfl, (Course.of_write (.powerOn e f)).keeps (keeps_stirTests _)⟩
  | lineClockTick => exact ⟨_, rfl, (Course.of_write .second).keeps (keeps_clockTests _)⟩
  | receiveByte b stopOk => exact ⟨_, rfl, course_ite (.of_write (.link _ (receive_attn s.link b)))⟩
  | gapTimerExpiry => exact course_gapTimerExpiry s
  | serveLinkErr => exact course_serveLinkErr s
  | unknownKind kind body => exact course_unknownKind kind body s
  | estopAssertion => exact ⟨_, rfl, course_assertEstop s⟩
  | estopRelease => exact ⟨_, rfl, .of_write .estopReleased⟩
  | idleTimerExpiry => exact ⟨_, rfl, .of_keeps ((keeps_expiryTest s).trans (keeps_stirTests _))⟩
  | wakeEnd => exact ⟨_, rfl, course_ite (Course.of_keeps (keeps_endWake s)).conclude⟩
  | manifoldStale m => exact ⟨_, rfl, .of_keeps (keeps_staleTest s m)⟩
  | stirStart m => exact ⟨_, rfl, .of_keeps (keeps_stirTest s m)⟩
  | stirComplete m => exact ⟨_, rfl, .of_keeps (keeps_completeStir s m)⟩
  | pumpStep m => exact ⟨_, rfl, .of_keeps (keeps_pump s m)⟩
  | stall m => exact ⟨_, rfl, .of_keeps (keeps_stall s m)⟩
  | floatTrip c => exact ⟨_, rfl, (course_floatTrip s c).conclude⟩
  | floatClear c => exact ⟨_, rfl, (Course.of_write (.canister c _)).conclude⟩
  | weighReading count ms => exact ⟨_, rfl, course_ite (course_weighReading s count ms)⟩
  | strayLoad => exact ⟨_, rfl, .of_keeps (keeps_strayTest s)⟩
  | stationSelect => exact ⟨_, rfl, .of_keeps ((keeps_select s).trans (keeps_noticePresence _))⟩
  | drawEnd => exact ⟨_, rfl, course_ite (.of_keeps (keeps_startSettle s _))⟩
  | unparkEnd => exact ⟨_, rfl, course_ite (Course.of_keeps (keeps_endUnpark s)).conclude⟩
  | settleEnd => exact course_settleEnd s
  | parkEnd => exact ⟨_, rfl, course_ite (Course.of_keeps (keeps_endPark s)).conclude⟩
  | dischargeEnd => exact ⟨_, rfl, course_ite (Course.of_keeps (keeps_endDischarge s)).conclude⟩
  | rejectEnd => exact ⟨_, rfl, course_ite (Course.of_keeps (keeps_endReject s)).conclude⟩
  | loadEnd k => exact ⟨_, rfl, course_ite (.of_keeps (keeps_startMixRun s k))⟩
  | mixRunComplete k => exact ⟨_, rfl, .of_keeps (keeps_mixRunComplete s k)⟩
  | imbalance k => exact ⟨_, rfl, .of_keeps (keeps_imbalance s k)⟩
  | reclampEnd k => exact ⟨_, rfl, course_ite (.of_keeps (keeps_startMixRun s k))⟩
  | unloadEnd k => exact ⟨_, rfl, course_ite (Course.of_keeps (keeps_endUnload s k)).conclude⟩
  | feedEnd present => exact course_feedEnd present s
  | reseatLidPresent present => exact course_reseatLidPresent present s
  | seatEnd force => exact course_seatEnd force s
  | ejectionEnd => exact course_ejectionEnd s
  | _ => cases hreq

/-- Every command goes on, by a course of such changes. -/
theorem exec_course (i : Instr) (s : State) : ∃ t, exec i s = .next t ∧ Course s t := by
  cases hreq : requestOf i with
  | none => exact course_event hreq s
  | some request =>
    obtain ⟨k, body⟩ := request
    exact ⟨_, exec_request hreq s, course_serve s k body⟩

end Sys2Proof.ReportQueue
end

section
/-! PROOFS. Every step keeps the Report Queue within its bounds and ATTN as the queue has it (O4). -/
namespace Sys2Proof.ReportQueue

open Sys2Proof Sys2Proof.Machine

theorem reportsOk_congr {s t : State} (hr : t.reports = s.reports) (ha : t.link.attn = s.link.attn) :
    s.reportsOk → t.reportsOk := by
  unfold State.reportsOk
  rw [hr, ha]
  exact id

theorem foldl_reserveDose_reports (l : List Dose) (s : State) :
    (l.foldl State.reserveDose s).reports = s.reports ∧ (l.foldl State.reserveDose s).link = s.link := by
  induction l generalizing s with
  | nil => exact ⟨rfl, rfl⟩
  | cons d l ih => exact ih (s.reserveDose d)

/-- An empty queue holds no urgent record (R171, R172). -/
theorem reportsOk_of_empty {s : State} (hr : s.reports = { queue := [], overflow := 0 }) (ha : s.link.attn = false) : s.reportsOk := by
  simp [State.reportsOk, hr, ha]

/-- FETCH shortens the queue and clears the count; ATTN follows what remains (R170, R171). -/
theorem reportsOk_fetched {s : State} (n : Nat) (h : s.reportsOk) :
    (s.withReports { queue := s.reports.queue.drop n, overflow := 0 }).reportsOk := by
  obtain ⟨hlength, -, -⟩ := h
  exact ⟨(List.drop_sublist n _).length_le.trans hlength, Nat.zero_le _, rfl⟩

/-- Of the writes only FETCH, RESET and power-on reach the Report Queue. -/
theorem Write.reportsOk {s t : State} (w : Write s t) (h : s.reportsOk) : t.reportsOk := by
  cases w with
  | link l hattn => exact reportsOk_congr (s := s) rfl hattn h
  | fetch n => exact reportsOk_fetched n h
  | admission o size base doses dropped =>
    obtain ⟨hreports, hlink⟩ := foldl_reserveDose_reports doses s
    exact reportsOk_congr (s := s) hreports (congrArg Link.attn hlink) h
  | stock i z n => cases i <;> exact h
  | softReset => exact reportsOk_of_empty rfl rfl
  | powerOn e f => exact reportsOk_of_empty rfl rfl
  | tare => fun_cases State.autoTare s <;> exact h
  | _ => exact h

/-- Postings keep the bounds and ATTN (`Keeps.reports`), and so does every write (R166, R169, R171). -/
theorem Course.reportsOk {s t : State} (a : Course s t) (h : s.reportsOk) : t.reportsOk := by
  induction a with
  | refl => exact h
  | write _ w ih => exact w.reportsOk ih
  | keeps _ k ih => exact k.reports ih

/-- Settles O4: a step is the front command's meaning, and a course of postings, fetches and clearings keeps the queue's bounds and ATTN. -/
theorem reportsKeptByEveryStep : Obligations.ReportsKeptByEveryStep := by
  intro s t hs h
  cases hp : s.pending with
  | nil =>
    simp only [step, hp, Host.Outcome.next.injEq] at h
    exact h ▸ hs
  | cons c rest =>
    obtain ⟨u, hexec, hcourse⟩ := exec_course c { s with pending := rest }
    rw [step_cons c rest s hp, hexec] at h
    injection h with h
    subst h
    exact hcourse.reportsOk hs

end Sys2Proof.ReportQueue
end

section
/-! PROOFS. The link under every command: no owner of a request but RESET's writes more of it than ATTN, and an event that carries no request
changes it in one of the ways of `LinkChange`. -/
namespace Sys2Proof.LinkFraming

open Sys2Proof Sys2Proof.Machine
open Sys2Proof.ColourantBank (ownerOf exec_request keeps_firstBoundary)
open Sys2Proof.Lidding (keeps_completeStir keeps_pump keeps_stall keeps_haltBlocks keeps_strayTest keeps_endUnpark
  keeps_endDischarge keeps_endReject keeps_settleDraw keeps_startMixRun keeps_mixRunComplete keeps_imbalance keeps_endUnload
  keeps_forceCheck keeps_endEjection keeps_endWake keeps_resume ident_state lineQuery_state)
open Sys2Proof.ReportQueue (foldl_reserveDose_reports keeps_endPark)

/-! ## The link left as it stands, but for ATTN -/

/-- The link of `t` is that of `s`, but for ATTN, which is the Report Queue's (R171). -/
def LinkKept (s t : State) : Prop := t.link = { s.link with attn := t.link.attn }

section
variable {s t u : State}

theorem LinkKept.refl (s : State) : LinkKept s s := rfl

theorem LinkKept.of_link (h : t.link = s.link) : LinkKept s t := by rw [LinkKept, h]

/-- What a shared operation keeps includes the link's own records. -/
theorem LinkKept.of_keeps (k : Keeps s t) : LinkKept s t := by
  change t.link = ⟨s.link.assembler, s.link.service, s.link.actionCount, t.link.attn, s.link.reply⟩
  rw [← k.assembler, ← k.service, ← k.actionCount, ← k.reply]

theorem LinkKept.trans (a : LinkKept s t) (b : LinkKept t u) : LinkKept s u := by
  unfold LinkKept at *
  rw [b, a]

theorem LinkKept.keeps (a : LinkKept s t) (k : Keeps t u) : LinkKept s u := a.trans (.of_keeps k)

theorem LinkKept.conclude (a : LinkKept s t) : LinkKept s t.conclude := a.keeps (keeps_conclude t)

theorem LinkKept.assembler (a : LinkKept s t) : t.link.assembler = s.link.assembler := by rw [a]

theorem LinkKept.service (a : LinkKept s t) : t.link.service = s.link.service := by rw [a]

theorem LinkKept.actionCount (a : LinkKept s t) : t.link.actionCount = s.link.actionCount := by rw [a]

theorem linkKept_ite {p : Prop} [Decidable p] (a : LinkKept s t) : LinkKept s (if p then t else s) := by
  split
  · exact a
  · exact .refl s

theorem linkKept_withJob {f : Job → Answer} (h : ∀ j, LinkKept s (f j).state) (body : Body) :
    LinkKept s (s.withJob body f).state := by
  fun_cases State.withJob s body f with
  | case3 _ _ _ _ j => exact h j
  | _ => rfl

theorem linkKept_withCanister {f : CanisterId → Answer} (h : ∀ c, LinkKept s (f c).state) (b : Byte) :
    LinkKept s (s.withCanister b f).state := by
  fun_cases State.withCanister s b f with
  | case2 c => exact h c
  | _ => rfl

theorem linkKept_withStock {f : Item → Size → Answer} (h : ∀ i z, LinkKept s (f i z).state) (item size : Byte) :
    LinkKept s (s.withStock item size f).state := by
  fun_cases State.withStock s item size f with
  | case3 i _ z => exact h i z
  | _ => rfl

end

/-! ## The Order Table's requests -/

theorem linkKept_admitJob (s : State) (o : OrderBody) (size : Size) (base : Base) (doses : List Dose) (dropped : Nat) :
    LinkKept s (s.admitJob o size base doses dropped) := .of_link (foldl_reserveDose_reports doses s).2

theorem linkKept_order (body : Body) (s : State) : LinkKept s (s.orderRequest body).state := by
  fun_cases State.orderRequest body s with
  | case9 => exact (linkKept_admitJob s _ _ _ _ _).conclude
  | _ => rfl

theorem linkKept_cancelJob (s : State) (j : Job) : LinkKept s (s.cancelJob j).state := by
  have hmarked : LinkKept s (if j.cancelPending then s else (s.setCancelPending j.tag).conclude) := by
    split
    · rfl
    · exact LinkKept.conclude (t := s.setCancelPending j.tag) rfl
  fun_cases State.cancelJob s j with
  | case1 => exact (LinkKept.of_keeps (keeps_finishJob s _ _)).conclude
  | case2 => exact hmarked
  | case3 => exact hmarked
  | _ => rfl

theorem linkKept_releaseJob (s : State) (j : Job) : LinkKept s (s.releaseJob j).state := by
  fun_cases State.releaseJob s j <;> rfl

/-! ## The Colourant Bank's requests -/

theorem linkKept_canisterSet (body : Body) (s : State) : LinkKept s (s.canisterSetRequest body).state := by
  fun_cases State.canisterSetRequest body s with
  | case1 =>
    refine linkKept_withCanister (fun c => ?_) _
    fun_cases State.setCanisterFields <;> rfl
  | case2 => rfl

theorem linkKept_examine (s : State) (c : CanisterId) : LinkKept s (s.examine c) := by
  fun_cases State.examine s c <;> rfl

theorem linkKept_answerState {s t : State} (h : LinkKept s t) (c : CanisterId) (r : Result) (changed : Bool) :
    LinkKept s (t.answerState c r changed).state := by
  cases changed
  · exact h
  · exact h.conclude

theorem linkKept_canisterOffline (s : State) (c : CanisterId) : LinkKept s (s.canisterOffline c).state := by
  fun_cases State.canisterOffline s c <;> exact linkKept_answerState rfl c _ _

theorem linkKept_canisterOnline (s : State) (c : CanisterId) : LinkKept s (s.canisterOnline c).state := by
  fun_cases State.canisterOnline s c with
  | case3 => exact linkKept_answerState (linkKept_examine s c) c _ _
  | _ => exact linkKept_answerState rfl c _ _

theorem linkKept_canisterClearCheck (s : State) (c : CanisterId) : LinkKept s (s.canisterClearCheck c).state := by
  fun_cases State.canisterClearCheck s c with
  | case1 => exact linkKept_answerState rfl c _ _
  | case2 => exact linkKept_answerState (linkKept_examine (s.setCanister c _) c) c _ _

theorem linkKept_canisterState (body : Body) (s : State) : LinkKept s (s.canisterStateRequest body).state := by
  fun_cases State.canisterStateRequest body s with
  | case1 =>
    refine linkKept_withCanister (fun c => ?_) _
    split_ifs
    · exact linkKept_canisterOffline s c
    · exact linkKept_canisterOnline s c
    · exact linkKept_canisterClearCheck s c
    · rfl
  | case2 => rfl

theorem linkKept_refill (body : Body) (s : State) : LinkKept s (s.refillRequest body).state := by
  fun_cases State.refillRequest body s with
  | case1 =>
    refine linkKept_withCanister (fun c => ?_) _
    have hwritten : ∀ k, LinkKept s (s.setCanister c k).conclude := fun k => LinkKept.conclude (t := s.setCanister c k) rfl
    fun_cases State.refillCanister with
    | case5 => exact hwritten _
    | case6 => exact hwritten _
    | _ => rfl
  | case2 => rfl

theorem linkKept_canisterQuery (body : Body) (s : State) : LinkKept s (s.canisterQueryRequest body).state := by
  fun_cases State.canisterQueryRequest body s with
  | case1 =>
    refine linkKept_withCanister (fun _ => ?_) _
    rfl
  | case2 => rfl

/-! ## Magazine Counts' requests -/

theorem linkKept_storeStock (s : State) (item size : Byte) (i : Item) (z : Size) (n : Nat) :
    LinkKept s (s.storeStock item size i z n).state :=
  (LinkKept.of_link (State.setStock_link s i z _)).conclude

theorem linkKept_stockLoad (body : Body) (s : State) : LinkKept s (s.stockLoadRequest body).state := by
  fun_cases State.stockLoadRequest body s with
  | case1 =>
    refine linkKept_withStock (fun i z => ?_) _ _
    split_ifs
    · rfl
    · exact linkKept_storeStock s _ _ i z _
  | case2 => rfl

theorem linkKept_stockSet (body : Body) (s : State) : LinkKept s (s.stockSetRequest body).state := by
  fun_cases State.stockSetRequest body s with
  | case1 => exact linkKept_withStock (fun i z => linkKept_storeStock s _ _ i z _) _ _
  | case2 => rfl

/-! ## Line Mode Control's requests -/

theorem linkKept_setSettings (s : State) (v : Settings) : LinkKept s (s.setSettings v) := rfl

theorem linkKept_lineSet (body : Body) (s : State) : LinkKept s (s.lineSetRequest body).state := by
  fun_cases State.lineSetRequest body s with
  | case1 => exact (linkKept_setSettings s _).keeps (keeps_clockTests _)
  | case2 => rfl

/-- A request for a working mode starts the wake (`case2`, `case3`) or enters that mode (`case6`, `case8`), or changes no mode (R158). -/
theorem linkKept_requestWork (s : State) (w : WorkMode) : LinkKept s (s.requestWork w).state := by
  have hworking : LinkKept s { s with line := { s.line with working := w } } := rfl
  fun_cases State.requestWork s w with
  | case2 => exact (hworking.keeps (keeps_startWake _)).conclude
  | case3 => exact (hworking.keeps (keeps_startWake _)).conclude
  | case6 => exact (hworking.keeps (keeps_enterMode _ _)).conclude
  | case8 => exact (hworking.keeps (keeps_enterMode _ _)).conclude
  | _ => rfl

/-- An idle line goes to SLEEP from the four other modes (`case3` to `case9`); otherwise nothing changes (R158). -/
theorem linkKept_requestSleep (s : State) : LinkKept s s.requestSleep.state := by
  have hslept : LinkKept s (s.startSleep.answerMode .ok true).state := (LinkKept.of_keeps (keeps_startSleep s)).conclude
  fun_cases State.requestSleep s with
  | case3 => exact hslept
  | case5 => exact hslept
  | case7 => exact hslept
  | case9 => exact hslept
  | _ => rfl

theorem linkKept_lineMode (body : Body) (s : State) : LinkKept s (s.lineModeRequest body).state := by
  fun_cases State.lineModeRequest body s with
  | case1 => exact linkKept_requestWork s _
  | case2 => exact linkKept_requestWork s _
  | case3 => exact linkKept_requestSleep s
  | _ => rfl

theorem linkKept_lineResume (body : Body) (s : State) : LinkKept s (s.lineResumeRequest body).state := by
  fun_cases State.lineResumeRequest body s with
  | case3 => exact (LinkKept.of_keeps (keeps_resume s)).conclude
  | _ => rfl

/-! ## CLEAR_FAULT -/

theorem linkKept_clearDrive (s : State) (m : Manifold) : LinkKept s (s.clearDrive m).state := by
  fun_cases State.clearDrive s m with
  | case1 => exact (LinkKept.of_keeps (keeps_setDrive s m _)).conclude
  | case2 => rfl

theorem linkKept_clearMixer (s : State) (k : MixerId) : LinkKept s (s.clearMixer k).state := by
  fun_cases State.clearMixer s k with
  | case1 => exact (LinkKept.of_keeps (keeps_setMixer s k _)).conclude
  | case2 => rfl

theorem linkKept_clearPress (s : State) : LinkKept s s.clearPress.state := by
  fun_cases State.clearPress s with
  | case1 => exact (LinkKept.of_keeps (keeps_press s _)).conclude
  | case2 => rfl

theorem linkKept_clearFault (body : Body) (s : State) : LinkKept s (s.clearFaultRequest body).state := by
  fun_cases State.clearFaultRequest body s with
  | case1 => exact linkKept_clearDrive s .a
  | case2 => exact linkKept_clearDrive s .b
  | case3 => exact linkKept_clearMixer s .m0
  | case4 => exact linkKept_clearMixer s .m1
  | case5 => exact linkKept_clearPress s
  | _ => rfl

/-! ## Every request -/

theorem linkKept_fetch (body : Body) (s : State) : LinkKept s (s.fetchRequest body).state := by
  fun_cases State.fetchRequest body s <;> rfl

theorem linkKept_jobQuery (body : Body) (s : State) : LinkKept s (ownerOf .jobQuery body s).state := by
  refine linkKept_withJob (fun _ => ?_) body
  rfl

theorem linkKept_ownerOf {k : RequestKind} (hreset : k ≠ .reset) (body : Body) (s : State) : LinkKept s (ownerOf k body s).state := by
  cases k with
  | ident => exact .of_link (congrArg State.link (ident_state body s))
  | order => exact linkKept_order body s
  | cancel => exact linkKept_withJob (linkKept_cancelJob s) body
  | jobQuery => exact linkKept_jobQuery body s
  | release => exact linkKept_withJob (linkKept_releaseJob s) body
  | canisterSet => exact linkKept_canisterSet body s
  | canisterState => exact linkKept_canisterState body s
  | refill => exact linkKept_refill body s
  | canisterQuery => exact linkKept_canisterQuery body s
  | stockLoad => exact linkKept_stockLoad body s
  | stockSet => exact linkKept_stockSet body s
  | lineSet => exact linkKept_lineSet body s
  | lineMode => exact linkKept_lineMode body s
  | lineResume => exact linkKept_lineResume body s
  | clearFault => exact linkKept_clearFault body s
  | lineQuery => exact .of_link (congrArg State.link (lineQuery_state body s))
  | fetch => exact linkKept_fetch body s
  | reset => exact absurd rfl hreset

/-- An accepted RESET opens the assembler's hunt and clears the waiting requests, the replies owed and the count; the stir tests that follow
leave the link. Any other answer of its owner changes nothing (R162, R182). -/
theorem resetRequest_cases (body : Body) (s : State) :
    ((s.resetRequest body).result ≠ .ok ∧ (s.resetRequest body).state = s) ∨
      ((s.resetRequest body).result = .ok ∧ LinkKept s.softReset (s.resetRequest body).state) := by
  fun_cases State.resetRequest body s with
  | case2 => exact .inr ⟨rfl, .of_keeps (keeps_stirTests _)⟩
  | _ => exact .inl ⟨nofun, rfl⟩

/-! ## Events -/

/-- What a command that carries no request, power-on apart, can do to the link. -/
inductive LinkChange (l : Link) : Link → Prop where
  /-- The link's own records stand; ATTN follows the Report Queue (R171). -/
  | kept (a : Bool) : LinkChange l { l with attn := a }
  /-- RECEIVE_BYTE (R173, R174, R175, R177). -/
  | received (b : Byte) : LinkChange l (l.receive b)
  /-- GAP_TIMER_EXPIRY (R176). -/
  | truncated : LinkChange l (l.discard .truncated)
  /-- A reply that is not a served request's: the place at the head of the order of service leaves it, uncounted (R177, R178, R180). -/
  | replied (r : Reply) (h : r.count = l.actionCount) : LinkChange l { l with service := l.service.tail, reply := some r }
  /-- A request that must wait joins the order of service (R177). -/
  | joins (kind : Byte) (body : Body) (h : l.buffered + (body.length + 5) ≤ 512) :
      LinkChange l { l with service := l.service ++ [.request kind body] }
  /-- A request that must wait and does not fit overruns the buffer (R177). -/
  | overruns : LinkChange l l.overrun

theorem LinkKept.change {s t : State} (h : LinkKept s t) : LinkChange s.link t.link := h ▸ .kept _

theorem linkChange_waitService (s : State) (kind : Byte) (body : Body) : LinkChange s.link (s.waitService kind body).link := by
  unfold State.waitService Config.bufferBytes
  split
  · exact .overruns
  · rename_i hfits
    exact .joins kind body (Nat.not_lt.1 hfits)

theorem linkChange_receiveByte (b : Byte) (stopOk : Bool) (s : State) :
    LinkChange s.link (if stopOk then { s with link := s.link.receive b } else s).link := by
  split
  · exact .received b
  · exact .kept _

theorem linkChange_gapTimerExpiry (s : State) :
    LinkChange s.link (if s.link.assembler = .hunt then s else { s with link := s.link.discard .truncated }).link := by
  split
  · exact .kept _
  · exact .truncated

theorem linkChange_serveLinkErr (s : State) : ∃ t, execServeLinkErr s = .next t ∧ LinkChange s.link t.link := by
  fun_cases execServeLinkErr s with
  | case1 e rest hservice =>
    have hreplied := LinkChange.replied (l := s.link) { kind := 0xFF, code := e.code, count := s.link.actionCount, fields := [] } rfl
    rw [hservice] at hreplied
    exact ⟨_, rfl, hreplied⟩
  | case2 => exact ⟨s, rfl, .kept _⟩

theorem linkChange_unknownKind (kind : Byte) (body : Body) (s : State) :
    ∃ t, execUnknownKind kind body s = .next t ∧ LinkChange s.link t.link := by
  refine ⟨_, rfl, ?_⟩
  split_ifs
  · exact .kept _
  · exact .replied _ rfl
  · exact linkChange_waitService s kind body

/-- Only the end of the run on the canister reaches further than the bank and the reports (R72). -/
theorem linkKept_floatTrip (s : State) (c : CanisterId) : LinkKept s (s.floatTrip c) := by
  fun_cases State.floatTrip s c with
  | case1 k hservice tripped posted hrunning =>
    have hposted : LinkKept s posted := rfl
    exact hposted.keeps (keeps_endRun _ _ _ _)
  | _ => rfl

theorem autoTare_link (s : State) : s.autoTare.link = s.link := by
  fun_cases State.autoTare s <;> rfl

theorem linkKept_weighReading (s : State) (count : Int) (ms : Nat) :
    LinkKept s (((s.takeReading count ms).autoTare.strayTest).conclude) :=
  (LinkKept.keeps (.of_link (autoTare_link (s.takeReading count ms))) (keeps_strayTest _)).conclude

theorem linkKept_assertEstop (s : State) : LinkKept s s.assertEstop := by
  have hhalted : LinkKept s (State.haltBlocks { s with line := s.line.halt }) :=
    LinkKept.keeps (t := { s with line := s.line.halt }) rfl (keeps_haltBlocks _)
  fun_cases State.assertEstop s with
  | case1 => exact hhalted.keeps (keeps_post _ .estop 1 0 0)
  | case2 => exact (hhalted.keeps (keeps_post _ .estop 1 0 0)).keeps (keeps_post _ _ _ _ _)

theorem linkKept_settleEnd (s : State) : ∃ t, execSettleEnd s = .next t ∧ LinkKept s t := by
  refine ⟨_, rfl, ?_⟩
  split
  · rfl
  · split
    · exact (LinkKept.of_keeps (keeps_settleDraw s)).conclude
    · exact (LinkKept.of_keeps (keeps_firstBoundary s)).conclude
    · exact (LinkKept.of_keeps (keeps_judge s)).conclude
    · rfl

theorem linkKept_feedEnd (present : Bool) (s : State) : ∃ t, execFeedEnd present s = .next t ∧ LinkKept s t := by
  refine ⟨_, rfl, linkKept_ite ?_⟩
  split
  · rfl
  · split
    · rfl
    · exact (LinkKept.of_keeps (keeps_lidMissing s _ .first)).conclude

theorem linkKept_reseatLidPresent (present : Bool) (s : State) : ∃ t, execReseatLidPresent present s = .next t ∧ LinkKept s t := by
  refine ⟨_, rfl, linkKept_ite ?_⟩
  split
  · rfl
  · exact (LinkKept.of_keeps (keeps_lidMissing s _ .retry)).conclude

theorem linkKept_seatEnd (force : Force) (s : State) : ∃ t, execSeatEnd force s = .next t ∧ LinkKept s t := by
  refine ⟨_, rfl, linkKept_ite ?_⟩
  split
  · rfl
  · exact (LinkKept.of_keeps (keeps_forceCheck s _ force)).conclude

theorem linkKept_ejectionEnd (s : State) : ∃ t, execEjectionEnd s = .next t ∧ LinkKept s t := by
  refine ⟨_, rfl, ?_⟩
  split
  · split
    · rfl
    · exact (LinkKept.of_keeps (keeps_endEjection s _)).conclude
  · rfl

/-- A command that leaves the link changes it in ATTN alone. -/
theorem linkChange_of_linkKept {o : Host.Outcome State Fault Refusal} {s : State} (h : ∃ t, o = .next t ∧ LinkKept s t) :
    ∃ t, o = .next t ∧ LinkChange s.link t.link := by
  obtain ⟨t, hnext, hkept⟩ := h
  exact ⟨t, hnext, hkept.change⟩

/-- The Link Interface's own commands change the link as they name it; those of the other blocks leave it but for ATTN. -/
theorem linkChange_event {i : Instr} (hreq : requestOf i = none) (hpor : ∀ e f, i ≠ .powerOnReset e f) (s : State) :
    ∃ t, exec i s = .next t ∧ LinkChange s.link t.link := by
  cases i with
  | powerOnReset e f => exact absurd rfl (hpor e f)
  | receiveByte b stopOk => exact ⟨_, rfl, linkChange_receiveByte b stopOk s⟩
  | gapTimerExpiry => exact ⟨_, rfl, linkChange_gapTimerExpiry s⟩
  | serveLinkErr => exact linkChange_serveLinkErr s
  | unknownKind kind body => exact linkChange_unknownKind kind body s
  | lineClockTick => exact ⟨_, rfl, (LinkKept.keeps (t := s.countSecond) rfl (keeps_clockTests _)).change⟩
  | estopAssertion => exact ⟨_, rfl, (linkKept_assertEstop s).change⟩
  | estopRelease => exact ⟨_, rfl, .kept _⟩
  | idleTimerExpiry => exact ⟨_, rfl, (LinkKept.of_keeps ((keeps_expiryTest s).trans (keeps_stirTests _))).change⟩
  | wakeEnd => exact ⟨_, rfl, (linkKept_ite (LinkKept.of_keeps (keeps_endWake s)).conclude).change⟩
  | manifoldStale m => exact ⟨_, rfl, (LinkKept.of_keeps (keeps_staleTest s m)).change⟩
  | stirStart m => exact ⟨_, rfl, (LinkKept.of_keeps (keeps_stirTest s m)).change⟩
  | stirComplete m => exact ⟨_, rfl, (LinkKept.of_keeps (keeps_completeStir s m)).change⟩
  | pumpStep m => exact ⟨_, rfl, (LinkKept.of_keeps (keeps_pump s m)).change⟩
  | stall m => exact ⟨_, rfl, (LinkKept.of_keeps (keeps_stall s m)).change⟩
  | floatTrip c => exact ⟨_, rfl, (linkKept_floatTrip s c).conclude.change⟩
  | floatClear c => exact ⟨_, rfl, (LinkKept.conclude (t := s.setCanister c _) rfl).change⟩
  | weighReading count ms => exact ⟨_, rfl, (linkKept_ite (linkKept_weighReading s count ms)).change⟩
  | strayLoad => exact ⟨_, rfl, (LinkKept.of_keeps (keeps_strayTest s)).change⟩
  | stationSelect => exact ⟨_, rfl, (LinkKept.of_keeps ((keeps_select s).trans (keeps_noticePresence _))).change⟩
  | drawEnd => exact ⟨_, rfl, (linkKept_ite (.of_keeps (keeps_startSettle s _))).change⟩
  | unparkEnd => exact ⟨_, rfl, (linkKept_ite (LinkKept.of_keeps (keeps_endUnpark s)).conclude).change⟩
  | settleEnd => exact linkChange_of_linkKept (linkKept_settleEnd s)
  | parkEnd => exact ⟨_, rfl, (linkKept_ite (LinkKept.of_keeps (keeps_endPark s)).conclude).change⟩
  | dischargeEnd => exact ⟨_, rfl, (linkKept_ite (LinkKept.of_keeps (keeps_endDischarge s)).conclude).change⟩
  | rejectEnd => exact ⟨_, rfl, (linkKept_ite (LinkKept.of_keeps (keeps_endReject s)).conclude).change⟩
  | loadEnd k => exact ⟨_, rfl, (linkKept_ite (.of_keeps (keeps_startMixRun s k))).change⟩
  | mixRunComplete k => exact ⟨_, rfl, (LinkKept.of_keeps (keeps_mixRunComplete s k)).change⟩
  | imbalance k => exact ⟨_, rfl, (LinkKept.of_keeps (keeps_imbalance s k)).change⟩
  | reclampEnd k => exact ⟨_, rfl, (linkKept_ite (.of_keeps (keeps_startMixRun s k))).change⟩
  | unloadEnd k => exact ⟨_, rfl, (linkKept_ite (LinkKept.of_keeps (keeps_endUnload s k)).conclude).change⟩
  | feedEnd present => exact linkChange_of_linkKept (linkKept_feedEnd present s)
  | reseatLidPresent present => exact linkChange_of_linkKept (linkKept_reseatLidPresent present s)
  | seatEnd force => exact linkChange_of_linkKept (linkKept_seatEnd force s)
  | ejectionEnd => exact linkChange_of_linkKept (linkKept_ejectionEnd s)
  | _ => cases hreq

end Sys2Proof.LinkFraming
end

section
/-! PROOFS. The receive buffer and the LINK_ERR replies owed: what an overrun, a discarded frame and a received byte do to them, and that every
step keeps them within their bounds (O7). -/
namespace Sys2Proof.LinkFraming

open Sys2Proof Sys2Proof.Machine
open Sys2Proof.ColourantBank (ownerOf exec_request)

/-! ## Overruns and discarded frames -/

theorem overrun_service (l : Link) : l.overrun.service =
    l.service.filter (·.isLinkErr) ++ if .linkErr .overrun ∈ l.service then [] else [.linkErr .overrun] := by
  have hcontains : (l.service.filter (·.isLinkErr)).contains (.linkErr .overrun) = true ↔ .linkErr .overrun ∈ l.service := by
    simp [Service.isLinkErr]
  by_cases h : .linkErr .overrun ∈ l.service
  · simp only [Link.overrun, if_pos (hcontains.2 h), if_pos h, List.append_nil]
  · simp only [Link.overrun, if_neg (mt hcontains.1 h), if_neg h]

theorem discard_eq_overrun {l : Link} (e : LinkErr) (h : 32 ≤ l.owed) : l.discard e = l.overrun := if_pos h

theorem discard_of_lt {l : Link} (e : LinkErr) (h : l.owed < 32) :
    l.discard e = { l with assembler := .hunt, service := l.service ++ [.linkErr e] } := if_neg (Nat.not_le.2 h)

/-- A LINK_ERR takes no bytes of the buffer (R177). -/
theorem bytes_of_isLinkErr {x : Service} (h : x.isLinkErr = true) : x.bytes = 0 := by
  cases x with
  | linkErr _ => rfl
  | request _ _ => cases h

theorem overrun_buffered (l : Link) : l.overrun.buffered = 0 := by
  have hkept : ((l.service.filter (·.isLinkErr)).map (·.bytes)).sum = 0 := by
    refine List.sum_eq_zero (fun n hn => ?_)
    obtain ⟨x, hx, rfl⟩ := List.mem_map.1 hn
    exact bytes_of_isLinkErr (List.mem_filter.1 hx).2
  have hhunt : l.overrun.assembler.bytes = 0 := rfl
  rw [Link.buffered, hhunt, overrun_service, List.map_append, List.sum_append, hkept]
  split <;> rfl

/-- The replies owed for discarded frames are kept, and the OVERRUN owed is not one of them (R177). -/
theorem overrun_owed (l : Link) : l.overrun.owed = l.owed := by
  rw [Link.owed, Link.owed, overrun_service, List.filter_append, List.filter_filter, List.length_append]
  have hsame : ∀ x ∈ l.service, ((x == .linkErr .badCheck || x == .linkErr .truncated) && x.isLinkErr) =
      (x == .linkErr .badCheck || x == .linkErr .truncated) := fun x _ => by
    cases x with
    | linkErr _ => exact Bool.and_true _
    | request _ _ => rfl
  rw [List.filter_congr hsame]
  split <;> rfl

theorem discard_buffered_le (l : Link) (e : LinkErr) : (l.discard e).buffered ≤ l.buffered := by
  rcases Nat.lt_or_ge l.owed 32 with h | h
  · simp [discard_of_lt e h, Link.buffered, Service.bytes, Assembler.bytes]
  · simp [discard_eq_overrun e h, overrun_buffered]

theorem discard_owed_le {l : Link} (e : LinkErr) (hl : l.owed ≤ 32) : (l.discard e).owed ≤ 32 := by
  rcases Nat.lt_or_ge l.owed 32 with h | h
  · have hone : ([.linkErr e].filter (fun x : Service => x == .linkErr .badCheck || x == .linkErr .truncated)).length ≤ 1 :=
      List.length_filter_le _ _
    rw [discard_of_lt e h, Link.owed, List.filter_append, List.length_append]
    unfold Link.owed at h
    omega
  · rwa [discard_eq_overrun e h, overrun_owed]

/-! ## A received byte -/

/-- The buffer grows by the byte received, and a request holds the bytes of its frame (R174, R177). -/
theorem take_buffered_le (l : Link) (b : Byte) : (l.take b).buffered ≤ l.buffered + 1 := by
  fun_cases Link.take l b with
  | case1 h => simp [Link.buffered, Assembler.bytes, h]
  | case2 => exact Nat.le_succ _
  | case3 h => simp [Link.buffered, Assembler.bytes, h]
  | case4 => simp [Link.buffered, Assembler.bytes, Nat.add_assoc]
  | case5 len h =>
    split <;> simp [Link.buffered, Assembler.bytes, h]
  | case6 len kind body h body1 =>
    have hlength : body1.length = body.length + 1 := List.length_append
    split <;> simp only [Link.buffered, Assembler.bytes, h, hlength, Option.isSome_none, Bool.toNat_false] <;> omega
  | case7 len kind body h => simp [Link.buffered, Assembler.bytes, h, Nat.add_assoc]
  | case8 len kind body high h =>
    fun_cases Link.complete l len kind body high b with
    | case1 =>
      simp only [Link.buffered, h, List.map_append, List.sum_append, List.map_cons, List.map_nil, List.sum_singleton, Service.bytes,
        Assembler.bytes, Option.isSome_some, Bool.toNat_true]
      omega
    | case2 => exact (discard_buffered_le l _).trans (Nat.le_succ _)

/-- A request that joins the order of service is no reply owed. -/
theorem owed_join (l : Link) (a : Assembler) (kind : Byte) (body : Body) :
    Link.owed { l with assembler := a, service := l.service ++ [.request kind body] } = l.owed := by
  simp [Link.owed]

/-- Only a frame that is discarded adds a reply owed (R175). -/
theorem take_owed_le {l : Link} (b : Byte) (hl : l.owed ≤ 32) : (l.take b).owed ≤ 32 := by
  fun_cases Link.take l b with
  | case8 len kind body high =>
    fun_cases Link.complete l len kind body high b with
    | case1 => rwa [owed_join]
    | case2 => exact discard_owed_le _ hl
  | _ => exact hl

/-! ## The bounds -/

/-- The receive buffer and the replies owed within their bounds, said of the link (R177). -/
def Bounded (l : Link) : Prop := l.buffered ≤ 512 ∧ l.owed ≤ 32

theorem bufferOk_iff (s : State) : s.bufferOk ↔ Bounded s.link := Iff.rfl

/-- The bounds rest on the assembler and the order of service. -/
theorem Bounded.congr {l m : Link} (h : Bounded l) (ha : m.assembler = l.assembler) (hs : m.service = l.service) : Bounded m := by
  rwa [Bounded, Link.buffered, Link.owed, ha, hs]

theorem bounded_of_empty {l : Link} (ha : l.assembler = .hunt) (hs : l.service = []) : Bounded l := by
  simp [Bounded, Link.buffered, Link.owed, Assembler.bytes, ha, hs]

section
variable {l : Link} (h : Bounded l)
include h

theorem Bounded.overrun : Bounded l.overrun := by
  refine ⟨?_, ?_⟩
  · simp [overrun_buffered]
  · rw [overrun_owed]
    exact h.2

theorem Bounded.receive (b : Byte) : Bounded (l.receive b) := by
  fun_cases Link.receive l b with
  | case1 => exact h.overrun
  | case2 hroom => exact ⟨(take_buffered_le l b).trans (Nat.not_le.1 hroom), take_owed_le b h.2⟩

theorem Bounded.discard (e : LinkErr) : Bounded (l.discard e) := ⟨(discard_buffered_le l e).trans h.1, discard_owed_le e h.2⟩

/-- The place at the head of the order of service leaves it (R177). -/
theorem Bounded.tail : Bounded { l with service := l.service.tail } := by
  obtain ⟨hbuffered, howed⟩ := h
  have hsub : l.service.tail.Sublist l.service := List.tail_sublist l.service
  exact ⟨(Nat.add_le_add_right ((hsub.map _).sum_le_sum (fun _ _ => Nat.zero_le _)) _).trans hbuffered,
    (hsub.filter _).length_le.trans howed⟩

theorem Bounded.join {kind : Byte} {body : Body} (hfits : l.buffered + (body.length + 5) ≤ 512) :
    Bounded { l with service := l.service ++ [.request kind body] } := by
  refine ⟨?_, ?_⟩
  · simp only [Link.buffered, List.map_append, List.sum_append, List.map_cons, List.map_nil, List.sum_singleton, Service.bytes] at hfits ⊢
    omega
  · rw [owed_join]
    exact h.2

theorem Bounded.change {m : Link} (c : LinkChange l m) : Bounded m := by
  cases c with
  | kept a => exact h.congr rfl rfl
  | received b => exact h.receive b
  | truncated => exact h.discard _
  | replied r => exact h.tail.congr rfl rfl
  | joins kind body hfits => exact h.join hfits
  | overruns => exact h.overrun

end

/-! ## Every step -/

theorem bounded_ownerOf {s : State} (h : Bounded s.link) (k : RequestKind) (body : Body) : Bounded (ownerOf k body s).state.link := by
  by_cases hreset : k = .reset
  · subst hreset
    rcases resetRequest_cases body s with ⟨-, hstate⟩ | ⟨-, hkept⟩
    · exact (congrArg State.link hstate) ▸ h
    · exact bounded_of_empty hkept.assembler hkept.service
  · have hkept := linkKept_ownerOf hreset body s
    exact h.congr hkept.assembler hkept.service

theorem bounded_serve {s : State} (h : Bounded s.link) (k : RequestKind) (body : Body) :
    Bounded (s.serve k body (ownerOf k body)).link := by
  fun_cases State.serve with
  | case1 => exact (bounded_ownerOf (s := s.beginService) h.tail k body).congr rfl rfl
  | case2 => exact h.change (linkChange_waitService s k.code body)

theorem exec_bounded (i : Instr) {s : State} (h : Bounded s.link) : ∃ t, exec i s = .next t ∧ Bounded t.link := by
  cases hreq : requestOf i with
  | some request =>
    obtain ⟨k, body⟩ := request
    exact ⟨_, exec_request hreq s, bounded_serve h k body⟩
  | none =>
    by_cases hpor : ∃ e f, i = .powerOnReset e f
    · obtain ⟨e, f, rfl⟩ := hpor
      have hkept : LinkKept (State.powerOnValues e f s.pending) _ := .of_keeps (keeps_stirTests _)
      exact ⟨_, rfl, bounded_of_empty hkept.assembler hkept.service⟩
    · simp only [not_exists] at hpor
      obtain ⟨t, hexec, hchange⟩ := linkChange_event hreq hpor s
      exact ⟨t, hexec, h.change hchange⟩

/-- Settles O7: a step is the front command's meaning, and each change of the link keeps its bounds. -/
theorem bufferKeptWithinBounds : Obligations.BufferKeptWithinBounds := by
  intro s t hs h
  cases hp : s.pending with
  | nil =>
    simp only [step, hp, Host.Outcome.next.injEq] at h
    exact h ▸ hs
  | cons c rest =>
    rw [step_cons c rest s hp] at h
    obtain ⟨u, hexec, hbounded⟩ := exec_bounded c (s := { s with pending := rest }) hs
    rw [hexec] at h
    injection h with h
    subst h
    exact (bufferOk_iff u).2 hbounded

end Sys2Proof.LinkFraming
end

section
/-! PROOFS. The action count: what a served request, a request that waits and every other command leave it at, and the count that each reply
carries (O14). -/
namespace Sys2Proof.LinkFraming

open Sys2Proof Sys2Proof.Machine
open Sys2Proof.ColourantBank (ownerOf exec_request exec_served accepted_iff send_reply)

/-! ## The count after a request (R180) -/

theorem uncounted_iff (k : RequestKind) : k.uncounted = true ↔ k ∈ [.ident, .jobQuery, .canisterQuery, .lineQuery, .reset] := by
  cases k <;> decide

theorem countAfter_eq (k : RequestKind) (r : Result) (n : Nat) :
    countAfter k r n = if r.code ∈ acceptedCodes ∧ k ∉ [.ident, .jobQuery, .canisterQuery, .lineQuery, .reset] then
      (if 63 ≤ n then 1 else n + 1) else n := by
  have hcounted : (r.accepted && !k.uncounted) = true ↔
      r.code ∈ acceptedCodes ∧ k ∉ [.ident, .jobQuery, .canisterQuery, .lineQuery, .reset] := by
    rw [Bool.and_eq_true, Bool.not_eq_true', ← Bool.not_eq_true, accepted_iff, uncounted_iff]
  unfold countAfter countUp
  by_cases h : (r.accepted && !k.uncounted) = true
  · rw [if_pos h, if_pos (hcounted.1 h)]
  · rw [if_neg h, if_neg (mt hcounted.2 h)]

theorem countAfter_le {n : Nat} (k : RequestKind) (r : Result) (h : n ≤ 63) : countAfter k r n ≤ 63 := by
  rw [countAfter_eq]
  split_ifs <;> omega

/-- A request that is not counted leaves the count, whatever the answer. -/
theorem countAfter_of_uncounted {k : RequestKind} (h : k.uncounted = true) (r : Result) (n : Nat) : countAfter k r n = n := by
  simp [countAfter, h]

theorem code_eq_zero_iff (r : Result) : r.code = 0x00 ↔ r = .ok := by
  cases r <;> decide

/-- The count that the answer to a served request leaves: 0 after an accepted RESET, otherwise that of R180. -/
theorem served_actionCount (k : RequestKind) (body : Body) (s : State) :
    ((ownerOf k body s).send k).link.actionCount =
      if k = .reset ∧ (ownerOf k body s).result.code = 0x00 then 0
      else countAfter k (ownerOf k body s).result s.link.actionCount := by
  change countAfter k (ownerOf k body s).result (ownerOf k body s).state.link.actionCount = _
  simp only [code_eq_zero_iff]
  by_cases hreset : k = .reset
  · subst hreset
    rcases resetRequest_cases body s with ⟨hresult, hstate⟩ | ⟨hresult, hkept⟩
    · rw [if_neg (fun h => hresult h.2)]
      exact congrArg (fun u : State => countAfter .reset (s.resetRequest body).result u.link.actionCount) hstate
    · rw [if_pos ⟨rfl, hresult⟩, countAfter_of_uncounted rfl]
      exact hkept.actionCount
  · rw [if_neg (fun h => hreset h.1), (linkKept_ownerOf hreset body s).actionCount]

/-! ## The other commands -/

theorem discard_uncounted (l : Link) (e : LinkErr) :
    (l.discard e).actionCount = l.actionCount ∧ (l.discard e).reply = l.reply := by
  fun_cases Link.discard l e <;> exact ⟨rfl, rfl⟩

/-- No received byte sends a reply; one that completes a frame (`case8`) makes a request or owes BAD_CHECK (R174, R175). -/
theorem receive_uncounted (l : Link) (b : Byte) :
    (l.receive b).actionCount = l.actionCount ∧ (l.receive b).reply = l.reply := by
  fun_cases Link.receive l b with
  | case1 => exact ⟨rfl, rfl⟩
  | case2 =>
    fun_cases Link.take l b with
    | case8 len kind body high =>
      fun_cases Link.complete l len kind body high b with
      | case1 => exact ⟨rfl, rfl⟩
      | case2 => exact discard_uncounted l .badCheck
    | _ => exact ⟨rfl, rfl⟩

theorem LinkChange.uncounted {l m : Link} (c : LinkChange l m) :
    m.actionCount = l.actionCount ∧ (m.reply = l.reply ∨ ∃ r, m.reply = some r ∧ r.count = l.actionCount) := by
  cases c with
  | kept a => exact ⟨rfl, .inl rfl⟩
  | received b => exact (receive_uncounted l b).imp_right .inl
  | truncated => exact (discard_uncounted l .truncated).imp_right .inl
  | replied r hcount => exact ⟨rfl, .inr ⟨r, rfl, hcount⟩⟩
  | joins kind body => exact ⟨rfl, .inl rfl⟩
  | overruns => exact ⟨rfl, .inl rfl⟩

theorem powerOn_actionCount (estop : Bool) (floats : BitVec 16) (pending : List Instr) :
    (State.powerOnValues estop floats pending).stirTests.link.actionCount = 0 := (keeps_stirTests _).actionCount

theorem waits_actionCount (s : State) (kind : Byte) (body : Body) :
    (s.waitService kind body).link.actionCount = s.link.actionCount := (linkChange_waitService s kind body).uncounted.1

theorem exec_actionCount_le (i : Instr) {s : State} (h : s.link.actionCount ≤ 63) :
    ∃ t, exec i s = .next t ∧ t.link.actionCount ≤ 63 := by
  cases hreq : requestOf i with
  | some request =>
    obtain ⟨k, body⟩ := request
    refine ⟨_, exec_request hreq s, ?_⟩
    fun_cases State.serve with
    | case1 =>
      rw [served_actionCount]
      split_ifs
      · exact Nat.zero_le _
      · exact countAfter_le k _ h
    | case2 => rwa [waits_actionCount]
  | none =>
    by_cases hpor : ∃ e f, i = .powerOnReset e f
    · obtain ⟨e, f, rfl⟩ := hpor
      exact ⟨_, rfl, (powerOn_actionCount e f _).trans_le (Nat.zero_le _)⟩
    · simp only [not_exists] at hpor
      obtain ⟨t, hexec, hchange⟩ := linkChange_event hreq hpor s
      exact ⟨t, hexec, hchange.uncounted.1.trans_le h⟩

/-- Settles O14: a served request's count is that of `served_actionCount`, every other command's change of the link leaves it. -/
theorem actionCountRises : Obligations.ActionCountRises := by
  refine ⟨fun i s t h hexec => ?_, fun i k body s hreq hserves => ?_, fun i k body s hreq hwaits => ?_, fun i s hreq hpor => ?_,
    fun e f s => ⟨_, rfl, powerOn_actionCount e f s.pending⟩⟩
  · obtain ⟨u, hnext, hle⟩ := exec_actionCount_le i h
    rw [hnext] at hexec
    injection hexec with hexec
    exact hexec ▸ hle
  · refine ⟨_, _, exec_served hreq hserves, send_reply _ k, rfl, ?_⟩
    rw [served_actionCount, countAfter_eq]
    rfl
  · refine ⟨_, exec_request hreq s, ?_⟩
    rw [State.serve_waits hwaits, waits_actionCount]
  · obtain ⟨t, hnext, hchange⟩ := linkChange_event hreq hpor s
    exact ⟨t, hnext, hchange.uncounted⟩

end Sys2Proof.LinkFraming
end

section
/-! PROOFS. The frame assembler, row by row (O16), and a frame received byte by byte (O18). -/
namespace Sys2Proof.LinkFraming

open Sys2Proof Sys2Proof.Machine
open Sys2Proof.LineModes (exec_reset_of_free)

/-! ## The rows of the assembler's table (R174) -/

section
variable {l : Link} {b : Byte}

theorem receive_of_room (h : l.buffered < 512) : l.receive b = l.take b := if_neg (Nat.not_le.2 h)

theorem receive_of_full (h : 512 ≤ l.buffered) : l.receive b = l.overrun := if_pos h

theorem take_sync (ha : l.assembler = .hunt) (hb : b = 0xA5) : l.take b = { l with assembler := .length } := by
  simp [Link.take, ha, hb]

theorem take_not_sync (ha : l.assembler = .hunt) (hb : b ≠ 0xA5) : l.take b = l := by
  simp only [Link.take, ha]
  exact if_neg hb

theorem take_length (ha : l.assembler = .length) (hlow : 1 ≤ b.toNat) (hhigh : b.toNat ≤ 250) :
    l.take b = { l with assembler := .kind b.toNat } := by
  simp [Link.take, ha, hlow, hhigh]

theorem take_length_out (ha : l.assembler = .length) (hb : b = 0 ∨ 251 ≤ b.toNat) : l.take b = { l with assembler := .hunt } := by
  have hout : ¬ (1 ≤ b.toNat ∧ b.toNat ≤ 250) := by
    rcases hb with rfl | hb
    · decide
    · omega
  simp [Link.take, ha, hout]

theorem take_kind {len : Nat} (ha : l.assembler = .kind len) :
    l.take b = { l with assembler := if len = 1 then .check len b [] none else .body len b [] } := by
  simp [Link.take, ha]

theorem take_body_last {len : Nat} {kind : Byte} {body : Body} (ha : l.assembler = .body len kind body)
    (hlast : body.length + 1 = len - 1) : l.take b = { l with assembler := .check len kind (body ++ [b]) none } := by
  simp [Link.take, ha, hlast]

theorem take_body_more {len : Nat} {kind : Byte} {body : Body} (ha : l.assembler = .body len kind body)
    (hmore : body.length + 1 ≠ len - 1) : l.take b = { l with assembler := .body len kind (body ++ [b]) } := by
  simp [Link.take, ha, hmore]

theorem take_check_high {len : Nat} {kind : Byte} {body : Body} (ha : l.assembler = .check len kind body none) :
    l.take b = { l with assembler := .check len kind body (some b) } := by
  simp [Link.take, ha]

theorem take_check_low {len : Nat} {kind high : Byte} {body : Body} (ha : l.assembler = .check len kind body (some high)) :
    l.take b = l.complete len kind body high b := by
  simp [Link.take, ha]

theorem discard_assembler (e : LinkErr) : (l.discard e).assembler = .hunt := by
  fun_cases Link.discard l e <;> rfl

theorem complete_assembler (len : Nat) (kind high low : Byte) (body : Body) :
    (l.complete len kind body high low).assembler = .hunt := by
  fun_cases Link.complete l len kind body high low with
  | case1 => rfl
  | case2 => exact discard_assembler .badCheck

end

theorem exec_receiveByte_of_room {s : State} (b : Byte) (h : s.link.buffered < 512) :
    exec (.receiveByte b true) s = .next { s with link := s.link.take b } := by
  rw [← receive_of_room h]
  rfl

/-- Settles O16: the rows of `take`; power-on and RESET leave the assembler in HUNT, and the stir tests that follow them keep it. -/
theorem receiveByteTable : Obligations.ReceiveByteTable := by
  refine ⟨fun s b hroom => ?_, fun e f s => ⟨_, rfl, ?_⟩, fun s hserves hfree => ⟨_, exec_reset_of_free hserves (by simp [hfree]), ?_⟩⟩
  · rw [exec_receiveByte_of_room b hroom]
    refine ⟨fun ha hb => ?_, fun ha hb => ?_, fun ha hlow hhigh => ?_, fun ha hb => ?_, fun len ha => ?_, fun len kind body ha hlast => ?_,
      fun len kind body ha hmore => ?_, fun len kind body ha => ?_, fun len kind body high ha => ⟨_, rfl, ?_⟩⟩
    · rw [take_sync ha hb]
    · rw [take_not_sync ha hb]
    · rw [take_length ha hlow hhigh]
    · rw [take_length_out ha hb]
    · rw [take_kind ha]
    · rw [take_body_last ha hlast]
    · rw [take_body_more ha hmore]
    · rw [take_check_high ha]
    · change (s.link.take b).assembler = .hunt
      rw [take_check_low ha, complete_assembler]
  · exact (keeps_stirTests (State.powerOnValues e f s.pending)).assembler
  · exact (keeps_stirTests s.beginService.softReset).assembler

/-! ## A frame byte by byte -/

/-- A run that only receives bytes takes them into the link one after another. -/
theorem run_receiveByte (bs : List Byte) (s : State) :
    Host.Core.run Sys2Proof.core bs.length ({ s with pending := bs.map (fun b => Instr.receiveByte b true) } : State) =
      .next ({ s with pending := [], link := bs.foldl Link.receive s.link } : State) := by
  induction bs generalizing s with
  | nil => rfl
  | cons b bs ih => exact ih { s with link := s.link.receive b }

/-- The bytes of the requests in the order of service. -/
def waitingBytes (l : Link) : Nat := (l.service.map (·.bytes)).sum

/-- A link whose assembler is in a state, with room for one byte more, takes that byte. -/
theorem receive_at {l : Link} {a : Assembler} {b : Byte} (h : waitingBytes l + a.bytes < 512) :
    Link.receive { l with assembler := a } b = Link.take { l with assembler := a } b := receive_of_room h

/-- The bytes of the body that remain take the assembler from BODY to CHECK (R174). -/
theorem foldl_receive_body (l : Link) (len : Nat) (kind : Byte) (received rest : Body) (hrest : rest ≠ [])
    (hlen : received.length + rest.length = len - 1) (hroom : waitingBytes l + (len + 4) ≤ 512) :
    rest.foldl Link.receive { l with assembler := .body len kind received } =
      { l with assembler := .check len kind (received ++ rest) none } := by
  induction rest generalizing received with
  | nil => exact absurd rfl hrest
  | cons b rest ih =>
    rw [List.length_cons] at hlen
    rw [List.foldl_cons, receive_at (by simp only [Assembler.bytes]; omega)]
    by_cases hlast : rest = []
    · subst hlast
      rw [take_body_last rfl (by simpa using hlen)]
      rfl
    · have hpos := List.length_pos_iff.2 hlast
      rw [take_body_more rfl (by omega), ih (received ++ [b]) hlast (by rw [List.length_append, List.length_singleton]; omega),
        List.append_assoc, List.singleton_append]

/-- The body's bytes, whatever their number, take an assembler that has its kind byte to come to CHECK (R174). -/
theorem foldl_receive_kind_body (l : Link) (kind : Byte) (body : Body) (hroom : waitingBytes l + (body.length + 5) ≤ 512) :
    (kind :: body).foldl Link.receive { l with assembler := .kind (body.length + 1) } =
      { l with assembler := .check (body.length + 1) kind body none } := by
  rw [List.foldl_cons, receive_at (by simp only [Assembler.bytes]; omega), take_kind rfl]
  by_cases hempty : body = []
  · subst hempty
    rfl
  · have hpos := List.length_pos_iff.2 hempty
    rw [if_neg (by omega)]
    exact foldl_receive_body l (body.length + 1) kind [] body hempty (by simp) (by omega)

/-- The two check bytes of a frame are its check code, high byte first (R175). -/
theorem append_check_bytes (c : BitVec 16) : ((c >>> 8).truncate 8 : BitVec 8) ++ (c.truncate 8 : BitVec 8) = c := by
  refine BitVec.eq_of_getLsbD_eq (fun i _ => ?_)
  rw [BitVec.getLsbD_append]
  split
  · rename_i hi
    simp [hi]
  · have hi : 8 + (i - 8) = i := by omega
    have hlow : i - 8 < 8 := by omega
    simp [hi, hlow]

/-- The check bytes that agree make a request of the frame (R175). -/
theorem foldl_receive_check (l : Link) (len : Nat) (kind : Byte) (body : Body) (hroom : waitingBytes l + (body.length + 5) ≤ 512) :
    [(frameCheck len kind body >>> 8).truncate 8, (frameCheck len kind body).truncate 8].foldl Link.receive
        { l with assembler := .check len kind body none } =
      { l with assembler := .hunt, service := l.service ++ [.request kind body] } := by
  have hhigh (b : Byte) : Link.receive { l with assembler := .check len kind body none } b =
      { l with assembler := .check len kind body (some b) } := by
    rw [receive_at (by simp only [Assembler.bytes, Option.isSome_none, Bool.toNat_false]; omega), take_check_high rfl]
  have hlow (high b : Byte) : Link.receive { l with assembler := .check len kind body (some high) } b =
      Link.complete { l with assembler := .check len kind body (some high) } len kind body high b := by
    rw [receive_at (by simp only [Assembler.bytes, Option.isSome_some, Bool.toNat_true]; omega), take_check_low rfl]
  rw [List.foldl_cons, List.foldl_cons, List.foldl_nil, hhigh, hlow]
  exact if_pos (append_check_bytes _).symm

/-- A whole frame, from HUNT to the request it spells (R174, R175, R177). -/
theorem foldl_receive_frame {l : Link} (kind : Byte) (body : Body) (hunt : l.assembler = .hunt) (hlength : body.length ≤ 249)
    (hroom : waitingBytes l + (body.length + 5) ≤ 512) :
    (frameBytes kind body).foldl Link.receive l = { l with service := l.service ++ [.request kind body] } := by
  have hlen : (BitVec.ofNat 8 (body.length + 1)).toNat = body.length + 1 := Nat.mod_eq_of_lt (by omega)
  have hl : l = { l with assembler := .hunt } := by rw [← hunt]
  have hsync : Link.receive l 0xA5 = { l with assembler := .length } := by
    rw [hl, receive_at (by simp only [Assembler.bytes]; omega), take_sync rfl rfl]
  have hcount : Link.receive { l with assembler := .length } (BitVec.ofNat 8 (body.length + 1)) =
      { l with assembler := .kind (body.length + 1) } := by
    rw [receive_at (by simp only [Assembler.bytes]; omega), take_length rfl (by omega) (by omega), hlen]
  calc (frameBytes kind body).foldl Link.receive l
      = [(frameCheck (body.length + 1) kind body >>> 8).truncate 8, (frameCheck (body.length + 1) kind body).truncate 8].foldl Link.receive
          ((kind :: body).foldl Link.receive
            (Link.receive (Link.receive l 0xA5) (BitVec.ofNat 8 (body.length + 1)))) := by
        simp [frameBytes]
    _ = { l with assembler := .hunt, service := l.service ++ [.request kind body] } := by
        rw [hsync, hcount, foldl_receive_kind_body l kind body hroom, foldl_receive_check l _ kind body hroom]
    _ = { l with service := l.service ++ [.request kind body] } := by rw [← hunt]

theorem frameBytes_length (kind : Byte) (body : Body) : (frameBytes kind body).length = body.length + 5 := by
  simp [frameBytes]

/-- Settles O18: the run receives the frame's bytes, and those make the request. -/
theorem frameReceivedBecomesRequest : Obligations.FrameReceivedBecomesRequest := by
  intro s kind body hunt hlength hroom
  have hwaiting : waitingBytes s.link + (body.length + 5) ≤ 512 := by
    rw [Link.buffered, hunt] at hroom
    exact hroom
  rw [← frameBytes_length kind body, run_receiveByte, foldl_receive_frame kind body hunt hlength hwaiting]

end Sys2Proof.LinkFraming
end

section
/-! PROOFS. The check code bit by bit, a frame as sent, and the end of a frame (O17). -/
namespace Sys2Proof.LinkFraming

open Sys2Proof Sys2Proof.Machine

/-! ## The check code (R175) -/

/-- One bit of a frame through the register, as R175 tells it: it is compared with the bit shifted out. -/
def crcStep (b : Byte) (r : BitVec 16) (i : Nat) : BitVec 16 :=
  if r.getLsbD 15 = b.getLsbD i then r <<< 1 else (r <<< 1) ^^^ (1#16 <<< 12 ||| 1#16 <<< 5 ||| 1#16)

/-- A bit of the model's register, into which the bits still to come have been taken beforehand: the register `r` has its top bit compared
with that of `x`, and `x` moves on. -/
theorem crcBit_xor (r x : BitVec 16) :
    crcBit (r ^^^ x) =
      (if r.getLsbD 15 = x.getLsbD 15 then r <<< 1 else (r <<< 1) ^^^ (1#16 <<< 12 ||| 1#16 <<< 5 ||| 1#16)) ^^^ (x <<< 1) := by
  have hpoly : (1#16 <<< 12 ||| 1#16 <<< 5 ||| 1#16) = 0x1021#16 := by decide
  have hmsb : (r ^^^ x).msb = (r.getLsbD 15 ^^ x.getLsbD 15) := by simp [BitVec.msb_eq_getLsbD_last]
  rw [hpoly, crcBit, hmsb, BitVec.shiftLeft_xor_distrib]
  by_cases h : r.getLsbD 15 = x.getLsbD 15
  · have hsame : (r.getLsbD 15 ^^ x.getLsbD 15) = false := by simpa using h
    rw [hsame, if_neg Bool.false_ne_true, if_pos h]
  · have hdiffer : (r.getLsbD 15 ^^ x.getLsbD 15) = true := by simpa using h
    rw [hdiffer, if_pos rfl, if_neg h, BitVec.xor_assoc, BitVec.xor_assoc, BitVec.xor_comm (x <<< 1)]

/-- The bits of a byte still to come after `n` of them, at the top of the register. -/
def ahead (b : Byte) (n : Nat) : BitVec 16 := b.zeroExtend 16 <<< (8 + n)

theorem crcBit_ahead (r : BitVec 16) (b : Byte) {n : Nat} (h : n < 8) :
    crcBit (r ^^^ ahead b n) = crcStep b r (7 - n) ^^^ ahead b (n + 1) := by
  have htop : (ahead b n).getLsbD 15 = b.getLsbD (7 - n) := by
    have hindex : 15 - (8 + n) = 7 - n := by omega
    have hreached : 8 + n ≤ 15 := by omega
    simp [ahead, hindex, hreached]
  rw [crcBit_xor, htop, crcStep, ahead, ahead, ← BitVec.shiftLeft_add, Nat.add_assoc]

theorem crcByte_eq_foldl (r : BitVec 16) (b : Byte) : crcByte r b = [7, 6, 5, 4, 3, 2, 1, 0].foldl (crcStep b) r := by
  have hgone : ahead b 8 = 0#16 := by
    refine BitVec.eq_of_getLsbD_eq (fun i hi => ?_)
    simp [ahead, hi]
  change crcBit (crcBit (crcBit (crcBit (crcBit (crcBit (crcBit (crcBit (r ^^^ ahead b 0)))))))) = _
  simp only [crcBit_ahead, Nat.reduceLT, Nat.reduceAdd, Nat.reduceSub, hgone, BitVec.xor_zero, List.foldl_cons, List.foldl_nil]

theorem crc_append_byte (bs : List Byte) (b : Byte) : crc (bs ++ [b]) = crcByte (crc bs) b := List.foldl_append

/-! ## A frame as sent (Layouts, Frame) -/

theorem truncate_eq_ofNat (c : BitVec 16) : (c.truncate 8 : BitVec 8) = BitVec.ofNat 8 c.toNat := rfl

theorem truncate_shift_eq_ofNat (c : BitVec 16) : ((c >>> 8).truncate 8 : BitVec 8) = BitVec.ofNat 8 (c.toNat / 256) := by
  rw [truncate_eq_ofNat, BitVec.toNat_ushiftRight, Nat.shiftRight_eq_div_pow]

theorem frameBytes_eq (kind : Byte) (body : Body) :
    let len : Byte := BitVec.ofNat 8 (body.length + 1)
    let check := (crc (len :: kind :: body)).toNat
    frameBytes kind body = 0xA5 :: len :: kind :: body ++ [BitVec.ofNat 8 (check / 256), BitVec.ofNat 8 check] := by
  simp only [frameBytes, truncate_shift_eq_ofNat]
  rfl

/-! ## The end of a frame (R175, R176) -/

section
variable {l : Link} {len : Nat} {kind high low : Byte} {body : Body}

theorem complete_agreeing (h : crc (BitVec.ofNat 8 len :: kind :: body) = high ++ low) :
    l.complete len kind body high low = { l with assembler := .hunt, service := l.service ++ [.request kind body] } := if_pos h

theorem complete_differing (h : crc (BitVec.ofNat 8 len :: kind :: body) ≠ high ++ low) :
    l.complete len kind body high low = l.discard .badCheck := if_neg h

end

theorem exec_gapTimerExpiry_hunt {s : State} (h : s.link.assembler = .hunt) : exec .gapTimerExpiry s = .next s :=
  congrArg Host.Outcome.next (if_pos h)

theorem exec_gapTimerExpiry_open {s : State} (h : s.link.assembler ≠ .hunt) :
    exec .gapTimerExpiry s = .next { s with link := s.link.discard .truncated } := congrArg Host.Outcome.next (if_neg h)

/-- Settles O17: the register of R175 against the model's, and the ends of a frame by the order of service, the replies owed and the check
code. -/
theorem frameEndsAndOverruns : Obligations.FrameEndsAndOverruns := by
  refine ⟨⟨rfl, fun bs b => ?_, Tests.test_crc_figure, frameBytes_eq, fun _ => rfl⟩, fun _ _ => rfl, fun s b hfull => ?_,
    fun l => ⟨rfl, rfl, rfl, rfl, overrun_service l⟩, fun s b high kind len body hroom ha => ?_, fun s hunt => exec_gapTimerExpiry_hunt hunt,
    fun s hopen howed => ?_, fun s hopen howed => ?_⟩
  · rw [crc_append_byte, crcByte_eq_foldl]
    rfl
  · rw [← receive_of_full (b := b) hfull]
    rfl
  · rw [exec_receiveByte_of_room b hroom, take_check_low ha]
    refine ⟨fun h => ?_, fun h howed => ?_, fun h howed => ?_⟩
    · rw [complete_agreeing h]
    · rw [complete_differing h, discard_of_lt _ howed]
    · rw [complete_differing h, discard_eq_overrun _ howed]
  · rw [exec_gapTimerExpiry_open hopen, discard_of_lt _ howed]
  · rw [exec_gapTimerExpiry_open hopen, discard_eq_overrun _ howed]

end Sys2Proof.LinkFraming
end

section
/-! PROOFS. Serving in order: LINK_ERR and UNKNOWN_KIND replies and the place of a request that must wait (O19), a body of a wrong length and
what a reply carries (O20). -/
namespace Sys2Proof.LinkFraming

open Sys2Proof Sys2Proof.Machine
open Sys2Proof.ColourantBank (ownerOf exec_request exec_answered accepted_iff)

/-! ## The order of service (R177) -/

theorem serves_iff (l : Link) (kind : Byte) (body : Body) :
    l.serves kind body = true ↔ l.service = [] ∨ ∃ rest, l.service = .request kind body :: rest := by
  fun_cases Link.serves l kind body with
  | case1 h => simp [h]
  | case2 k b rest h => simp [h]
  | case3 e rest h => simp [h]

theorem waitService_fits {s : State} {kind : Byte} {body : Body} (h : s.link.buffered + (body.length + 5) ≤ 512) :
    s.waitService kind body = { s with link := { s.link with service := s.link.service ++ [.request kind body] } } := by
  rw [State.waitService, Config.bufferBytes, if_neg (Nat.not_lt.2 h)]

theorem waitService_overruns {s : State} {kind : Byte} {body : Body} (h : 512 < s.link.buffered + (body.length + 5)) :
    s.waitService kind body = { s with link := s.link.overrun } := by
  rw [State.waitService, Config.bufferBytes, if_pos h]

theorem exec_serveLinkErr_head {s : State} {e : LinkErr} {rest : List Service} (h : s.link.service = .linkErr e :: rest) :
    exec .serveLinkErr s = .next (State.replied { s with link := { s.link with service := rest } } 0xFF e.code) := by
  change execServeLinkErr s = _
  rw [execServeLinkErr, h]
  rfl

theorem exec_serveLinkErr_other {s : State} (h : ∀ e rest, s.link.service ≠ .linkErr e :: rest) : exec .serveLinkErr s = .next s := by
  change execServeLinkErr s = _
  fun_cases execServeLinkErr s with
  | case1 e rest hservice => exact absurd hservice (h e rest)
  | case2 => rfl

theorem exec_unknownKind_served {s : State} {kind : Byte} {body : Body} (hkind : kind ∉ requestKindCodes)
    (hserves : s.link.serves kind body = true) :
    exec (.unknownKind kind body) s = .next (s.beginService.replied (unknownReplyKind kind) Result.unknownKind.code) := by
  have hunlisted : ¬ requestKindCodes.contains kind = true := by simpa using hkind
  change execUnknownKind kind body s = _
  rw [execUnknownKind, if_neg hunlisted, if_pos hserves]
  rfl

/-- Settles O19: a LINK_ERR or an unlisted kind is replied to from the head of the order of service; a request with another head before it
waits. -/
theorem servedInOrder : Obligations.ServedInOrder := by
  refine ⟨fun s e rest h => ?_, fun s h => exec_serveLinkErr_other h, fun s kind body hkind hserves => exec_unknownKind_served hkind hserves,
    fun i k body s hreq hwaits => ?_⟩
  · rw [exec_serveLinkErr_head h]
    cases e <;> rfl
  · rw [exec_request hreq, State.serve_waits hwaits]
    exact ⟨fun hfits => by rw [waitService_fits hfits], fun hover => by rw [waitService_overruns hover]⟩

/-! ## The length of a body, and the reply (R178, R179, R180) -/

/-- Every owner but ORDER's takes its body by its shape, and a body of another length has not that shape (R178). -/
theorem ownerOf_wrong_length {k : RequestKind} {body : Body} {n : Nat} (hk : k.bodyLength = some n) (hlength : body.length ≠ n) (s : State) :
    ownerOf k body s = s.refuse .badLength := by
  cases k <;> cases hk
  all_goals
    simp only [ownerOf, State.identRequest, State.withJob, State.canisterSetRequest, State.canisterStateRequest, State.refillRequest,
      State.canisterQueryRequest, State.stockLoadRequest, State.stockSetRequest, State.lineSetRequest, State.lineModeRequest,
      State.lineResumeRequest, State.clearFaultRequest, State.lineQueryRequest, State.fetchRequest, State.resetRequest]
    split
    · exact absurd rfl hlength
    · rfl

theorem accepted_iff_mem (r : Result) : r.code ∈ acceptedCodes ↔ r = .ok ∨ r = .clamped ∨ r = .deferred := by
  rw [← accepted_iff]
  cases r <;> decide

theorem answered_eq (s : State) (k : RequestKind) (r : Result) (fields : List Byte) :
    s.answered k r fields = { s with link := { s.link with
      actionCount := countAfter k r s.link.actionCount
      reply := some { kind := k.code + 0x80, code := r.code, count := countAfter k r s.link.actionCount, fields := fields } } } := rfl

/-- Settles O20: the owners' test of the length, the count of `countAfter_eq`, and the tables of codes. -/
theorem wrongLengthRefused : Obligations.WrongLengthRefused := by
  refine ⟨fun i k body n s hreq hk hlength hserves => exec_answered hreq hserves (ownerOf_wrong_length hk hlength _),
    fun s k r fields => ?_, serves_iff, fun _ => rfl, ⟨rfl, rfl⟩, rfl⟩
  rw [answered_eq, countAfter_eq]
  simp only [accepted_iff_mem]

end Sys2Proof.LinkFraming
end

section
/-! PROOFS. The queue of commands, which is the model's own (log 1): the command at its front runs, and an empty queue leaves the part idle
(O1). -/
namespace Sys2Proof.CommandQueue

open Sys2Proof Sys2Proof.Machine

/-- With no command in the queue the part idles. -/
theorem step_nil {s : State} (h : s.pending = []) : step s = .next s := by simp [step, h]

/-- A command put at the front of the queue is the one that runs, on the state as it was without it. -/
theorem step_front (c : Instr) (s : State) : step { s with pending := c :: s.pending } = exec c s :=
  step_cons c s.pending _ rfl

/-- Settles O1, by the two shapes of the queue. -/
theorem stepTakesFrontCommand : Obligations.StepTakesFrontCommand :=
  ⟨step_front, fun _ => step_nil⟩

end Sys2Proof.CommandQueue
end
